-- ==== Sys2Proof/Word.lean ====
section
/-! DEFINITION. The two widths of the machine (00_scope.md R7): 8-bit bytes, which are also the register values, and
16-bit addresses. Their arithmetic is that of bit vectors, which wraps mod 256 and mod 65536 (10_state.md R51). -/

namespace Sys2Proof

/-- An 8-bit byte or register value. -/
abbrev Byte := BitVec 8

/-- A 16-bit address. -/
abbrev Addr := BitVec 16

end Sys2Proof
end

