-- ==== Sys2Proof/Config.lean ====
section
/-! DEFINITION. The parameters of 00_scope.md R8. `STACK_BASE` and `PHP_BIT5` are bound to the values the spec takes.
The GPIO addresses and the button's place are OPEN there ("the model takes the named parameter as an argument"), so
they are a structure that the one operation depending on them takes as an argument, and statements hold for every
binding. -/

namespace Sys2Proof

/-- `STACK_BASE` of R8: 0x0100, decision D4 of the spec (log entry 6). -/
def Config.stackBase : Addr := 0x0100

/-- `PHP_BIT5` of R8: 0, decision D8 of the spec (log entry 7). -/
def Config.phpBit5 : Bool := false

/-- `IRQ_VECTOR` of R7: a distinguished address that the core never reads (60_exceptions.md R350). -/
def Config.irqVector : Addr := 0xFFFE

/-- `NMI_VECTOR` of R7: a distinguished address that the core never reads (60_exceptions.md R350). -/
def Config.nmiVector : Addr := 0xFFFA

/-- The open parameters of R8 and D17: the four GPIO addresses, the pair and the bit of the button. -/
structure Config.GpioBinding where
  gpio0Port : Addr
  gpio0Ddr : Addr
  gpio1Port : Addr
  gpio1Ddr : Addr
  buttonPair : Fin 2
  buttonBit : Fin 8
  deriving DecidableEq, Repr

/-- "four distinct 16-bit addresses" (R8). -/
def Config.GpioBinding.distinct (g : Config.GpioBinding) : Bool :=
  g.gpio0Port != g.gpio0Ddr && g.gpio0Port != g.gpio1Port && g.gpio0Port != g.gpio1Ddr
    && g.gpio0Ddr != g.gpio1Port && g.gpio0Ddr != g.gpio1Ddr && g.gpio1Port != g.gpio1Ddr

/-- The port register of the button's pair (60_exceptions.md R365). -/
def Config.GpioBinding.buttonPort (g : Config.GpioBinding) : Addr :=
  if g.buttonPair = 0 then g.gpio0Port else g.gpio1Port

/-- The direction register of the button's pair (60_exceptions.md R365). -/
def Config.GpioBinding.buttonDdr (g : Config.GpioBinding) : Addr :=
  if g.buttonPair = 0 then g.gpio0Ddr else g.gpio1Ddr

end Sys2Proof
end

