-- ==== Sys2Proof/Decode.lean ====
section
/-! DEFINITION. Decoding and encoding (30_encoding.md). The opcode byte alone selects the decode-table entry (R100,
R110); the entry's format says how many operand bytes follow (R101, R102); a 16-bit operand is little-endian (R103).
`decode` is total on every list of bytes and rejects by name; `encode` writes an instruction's bytes. -/

namespace Sys2Proof

/-- Bits 7 to 0 of a 16-bit value: `PCL` of `PC` (00_scope.md R10). -/
def loByte (w : Addr) : Byte := w.setWidth 8

/-- Bits 15 to 8 of a 16-bit value: `PCH` of `PC` (00_scope.md R10). -/
def hiByte (w : Addr) : Byte := (w >>> 8).setWidth 8

/-- The 16-bit value whose low byte is `lo` and whose high byte is `hi`: `(hi << 8) | lo` (R103; 20_memory.md R63). -/
def wordOf (lo hi : Byte) : Addr := hi ++ lo

/-- `zext_16` of 00_scope.md R11. -/
def zext16 (b : Byte) : Addr := b.setWidth 16

/-- `sext_16` of 00_scope.md R11, as the 16-bit pattern that is added mod 65536. -/
def sext16 (b : Byte) : Addr := b.signExtend 16

/-- How many operand bytes each mode has (R101). -/
def Mode.count : Mode → Nat
  | .imp => 0
  | .acc => 0
  | .imm => 1
  | .zp => 1
  | .zpx => 1
  | .zpy => 1
  | .indx => 1
  | .indy => 1
  | .rel => 1
  | .abs => 2
  | .absx => 2
  | .absy => 2
  | .ind => 2

/-- The number of bytes an instruction with this operand takes: 1 and its operand byte count (R100). -/
def Operand.length (o : Operand) : Nat := 1 + o.mode.count

/-- Instruction length in bytes: 1, 2 or 3 (R100). -/
def Instr.length (i : Instr) : Nat := i.operand.length

/-- Why a list of bytes is no instruction. -/
inductive DecodeError where
  /-- The opcode byte is absent from the decode table (R115). -/
  | invalidOpcode (op : Byte)
  /-- The list ends before the instruction does; never raised on the bytes a step fetches. -/
  | truncated
  deriving DecidableEq, Repr

/-- What an opcode byte selects: an instruction that waits for the operand bytes of its format (R102). -/
inductive Form where
  | f1 (i : Instr)
  | f2 (mk : Byte → Instr)
  | f3 (mk : Addr → Instr)

/-- The decode table, by opcode byte (R110, the 16 x 16 map); absent bytes give none (R115). -/
def opcodeForm (op : Byte) : Option Form :=
  match op.toNat with
  | 0x00 => some (.f1 .brk)
  | 0x01 => some (.f2 .oraIndx)
  | 0x05 => some (.f2 .oraZp)
  | 0x06 => some (.f2 .aslZp)
  | 0x08 => some (.f1 .php)
  | 0x09 => some (.f2 .oraImm)
  | 0x0A => some (.f1 .aslAcc)
  | 0x0D => some (.f3 .oraAbs)
  | 0x0E => some (.f3 .aslAbs)
  | 0x10 => some (.f2 .bpl)
  | 0x11 => some (.f2 .oraIndy)
  | 0x15 => some (.f2 .oraZpx)
  | 0x16 => some (.f2 .aslZpx)
  | 0x18 => some (.f1 .clc)
  | 0x19 => some (.f3 .oraAbsy)
  | 0x1D => some (.f3 .oraAbsx)
  | 0x1E => some (.f3 .aslAbsx)
  | 0x20 => some (.f3 .jsr)
  | 0x21 => some (.f2 .andIndx)
  | 0x24 => some (.f2 .bitZp)
  | 0x25 => some (.f2 .andZp)
  | 0x26 => some (.f2 .rolZp)
  | 0x28 => some (.f1 .plp)
  | 0x29 => some (.f2 .andImm)
  | 0x2A => some (.f1 .rolAcc)
  | 0x2C => some (.f3 .bitAbs)
  | 0x2D => some (.f3 .andAbs)
  | 0x2E => some (.f3 .rolAbs)
  | 0x30 => some (.f2 .bmi)
  | 0x31 => some (.f2 .andIndy)
  | 0x35 => some (.f2 .andZpx)
  | 0x36 => some (.f2 .rolZpx)
  | 0x38 => some (.f1 .sec)
  | 0x39 => some (.f3 .andAbsy)
  | 0x3D => some (.f3 .andAbsx)
  | 0x3E => some (.f3 .rolAbsx)
  | 0x40 => some (.f1 .rti)
  | 0x41 => some (.f2 .eorIndx)
  | 0x45 => some (.f2 .eorZp)
  | 0x46 => some (.f2 .lsrZp)
  | 0x48 => some (.f1 .pha)
  | 0x49 => some (.f2 .eorImm)
  | 0x4A => some (.f1 .lsrAcc)
  | 0x4C => some (.f3 .jmpAbs)
  | 0x4D => some (.f3 .eorAbs)
  | 0x4E => some (.f3 .lsrAbs)
  | 0x50 => some (.f2 .bvc)
  | 0x51 => some (.f2 .eorIndy)
  | 0x55 => some (.f2 .eorZpx)
  | 0x56 => some (.f2 .lsrZpx)
  | 0x58 => some (.f1 .cli)
  | 0x59 => some (.f3 .eorAbsy)
  | 0x5D => some (.f3 .eorAbsx)
  | 0x5E => some (.f3 .lsrAbsx)
  | 0x60 => some (.f1 .rts)
  | 0x61 => some (.f2 .adcIndx)
  | 0x65 => some (.f2 .adcZp)
  | 0x66 => some (.f2 .rorZp)
  | 0x68 => some (.f1 .pla)
  | 0x69 => some (.f2 .adcImm)
  | 0x6A => some (.f1 .rorAcc)
  | 0x6C => some (.f3 .jmpInd)
  | 0x6D => some (.f3 .adcAbs)
  | 0x6E => some (.f3 .rorAbs)
  | 0x70 => some (.f2 .bvs)
  | 0x71 => some (.f2 .adcIndy)
  | 0x75 => some (.f2 .adcZpx)
  | 0x76 => some (.f2 .rorZpx)
  | 0x78 => some (.f1 .sei)
  | 0x79 => some (.f3 .adcAbsy)
  | 0x7D => some (.f3 .adcAbsx)
  | 0x7E => some (.f3 .rorAbsx)
  | 0x81 => some (.f2 .staIndx)
  | 0x84 => some (.f2 .styZp)
  | 0x85 => some (.f2 .staZp)
  | 0x86 => some (.f2 .stxZp)
  | 0x88 => some (.f1 .dey)
  | 0x8A => some (.f1 .txa)
  | 0x8C => some (.f3 .styAbs)
  | 0x8D => some (.f3 .staAbs)
  | 0x8E => some (.f3 .stxAbs)
  | 0x90 => some (.f2 .bcc)
  | 0x91 => some (.f2 .staIndy)
  | 0x94 => some (.f2 .styZpx)
  | 0x95 => some (.f2 .staZpx)
  | 0x96 => some (.f2 .stxZpy)
  | 0x98 => some (.f1 .tya)
  | 0x99 => some (.f3 .staAbsy)
  | 0x9A => some (.f1 .txs)
  | 0x9D => some (.f3 .staAbsx)
  | 0xA0 => some (.f2 .ldyImm)
  | 0xA1 => some (.f2 .ldaIndx)
  | 0xA2 => some (.f2 .ldxImm)
  | 0xA4 => some (.f2 .ldyZp)
  | 0xA5 => some (.f2 .ldaZp)
  | 0xA6 => some (.f2 .ldxZp)
  | 0xA8 => some (.f1 .tay)
  | 0xA9 => some (.f2 .ldaImm)
  | 0xAA => some (.f1 .tax)
  | 0xAC => some (.f3 .ldyAbs)
  | 0xAD => some (.f3 .ldaAbs)
  | 0xAE => some (.f3 .ldxAbs)
  | 0xB0 => some (.f2 .bcs)
  | 0xB1 => some (.f2 .ldaIndy)
  | 0xB4 => some (.f2 .ldyZpx)
  | 0xB5 => some (.f2 .ldaZpx)
  | 0xB6 => some (.f2 .ldxZpy)
  | 0xB8 => some (.f1 .clv)
  | 0xB9 => some (.f3 .ldaAbsy)
  | 0xBA => some (.f1 .tsx)
  | 0xBC => some (.f3 .ldyAbsx)
  | 0xBD => some (.f3 .ldaAbsx)
  | 0xBE => some (.f3 .ldxAbsy)
  | 0xC0 => some (.f2 .cpyImm)
  | 0xC1 => some (.f2 .cmpIndx)
  | 0xC4 => some (.f2 .cpyZp)
  | 0xC5 => some (.f2 .cmpZp)
  | 0xC6 => some (.f2 .decZp)
  | 0xC8 => some (.f1 .iny)
  | 0xC9 => some (.f2 .cmpImm)
  | 0xCA => some (.f1 .dex)
  | 0xCC => some (.f3 .cpyAbs)
  | 0xCD => some (.f3 .cmpAbs)
  | 0xCE => some (.f3 .decAbs)
  | 0xD0 => some (.f2 .bne)
  | 0xD1 => some (.f2 .cmpIndy)
  | 0xD5 => some (.f2 .cmpZpx)
  | 0xD6 => some (.f2 .decZpx)
  | 0xD8 => some (.f1 .cld)
  | 0xD9 => some (.f3 .cmpAbsy)
  | 0xDD => some (.f3 .cmpAbsx)
  | 0xDE => some (.f3 .decAbsx)
  | 0xE0 => some (.f2 .cpxImm)
  | 0xE1 => some (.f2 .sbcIndx)
  | 0xE4 => some (.f2 .cpxZp)
  | 0xE5 => some (.f2 .sbcZp)
  | 0xE6 => some (.f2 .incZp)
  | 0xE8 => some (.f1 .inx)
  | 0xE9 => some (.f2 .sbcImm)
  | 0xEA => some (.f1 .nop)
  | 0xEC => some (.f3 .cpxAbs)
  | 0xED => some (.f3 .sbcAbs)
  | 0xEE => some (.f3 .incAbs)
  | 0xF0 => some (.f2 .beq)
  | 0xF1 => some (.f2 .sbcIndy)
  | 0xF5 => some (.f2 .sbcZpx)
  | 0xF6 => some (.f2 .incZpx)
  | 0xF8 => some (.f1 .sed)
  | 0xF9 => some (.f3 .sbcAbsy)
  | 0xFD => some (.f3 .sbcAbsx)
  | 0xFE => some (.f3 .incAbsx)
  | _ => none

/-- The instruction at the head of a list of bytes, and the bytes after it (R104). -/
def decode : List Byte → Except DecodeError (Instr × List Byte)
  | [] => .error .truncated
  | op :: rest =>
    match opcodeForm op with
    | none => .error (.invalidOpcode op)
    | some (.f1 i) => .ok (i, rest)
    | some (.f2 mk) =>
      match rest with
      | b1 :: more => .ok (mk b1, more)
      | [] => .error .truncated
    | some (.f3 mk) =>
      match rest with
      | b1 :: b2 :: more => .ok (mk (wordOf b1 b2), more)
      | _ => .error .truncated

/-- The opcode byte of an instruction (R111). -/
def Instr.opcode : Instr → Byte
  | .ldaImm _ => 0xA9
  | .ldaZp _ => 0xA5
  | .ldaZpx _ => 0xB5
  | .ldaAbs _ => 0xAD
  | .ldaAbsx _ => 0xBD
  | .ldaAbsy _ => 0xB9
  | .ldaIndx _ => 0xA1
  | .ldaIndy _ => 0xB1
  | .ldxImm _ => 0xA2
  | .ldxZp _ => 0xA6
  | .ldxZpy _ => 0xB6
  | .ldxAbs _ => 0xAE
  | .ldxAbsy _ => 0xBE
  | .ldyImm _ => 0xA0
  | .ldyZp _ => 0xA4
  | .ldyZpx _ => 0xB4
  | .ldyAbs _ => 0xAC
  | .ldyAbsx _ => 0xBC
  | .staZp _ => 0x85
  | .staZpx _ => 0x95
  | .staAbs _ => 0x8D
  | .staAbsx _ => 0x9D
  | .staAbsy _ => 0x99
  | .staIndx _ => 0x81
  | .staIndy _ => 0x91
  | .stxZp _ => 0x86
  | .stxZpy _ => 0x96
  | .stxAbs _ => 0x8E
  | .styZp _ => 0x84
  | .styZpx _ => 0x94
  | .styAbs _ => 0x8C
  | .adcImm _ => 0x69
  | .adcZp _ => 0x65
  | .adcZpx _ => 0x75
  | .adcAbs _ => 0x6D
  | .adcAbsx _ => 0x7D
  | .adcAbsy _ => 0x79
  | .adcIndx _ => 0x61
  | .adcIndy _ => 0x71
  | .sbcImm _ => 0xE9
  | .sbcZp _ => 0xE5
  | .sbcZpx _ => 0xF5
  | .sbcAbs _ => 0xED
  | .sbcAbsx _ => 0xFD
  | .sbcAbsy _ => 0xF9
  | .sbcIndx _ => 0xE1
  | .sbcIndy _ => 0xF1
  | .cmpImm _ => 0xC9
  | .cmpZp _ => 0xC5
  | .cmpZpx _ => 0xD5
  | .cmpAbs _ => 0xCD
  | .cmpAbsx _ => 0xDD
  | .cmpAbsy _ => 0xD9
  | .cmpIndx _ => 0xC1
  | .cmpIndy _ => 0xD1
  | .cpxImm _ => 0xE0
  | .cpxZp _ => 0xE4
  | .cpxAbs _ => 0xEC
  | .cpyImm _ => 0xC0
  | .cpyZp _ => 0xC4
  | .cpyAbs _ => 0xCC
  | .incZp _ => 0xE6
  | .incZpx _ => 0xF6
  | .incAbs _ => 0xEE
  | .incAbsx _ => 0xFE
  | .decZp _ => 0xC6
  | .decZpx _ => 0xD6
  | .decAbs _ => 0xCE
  | .decAbsx _ => 0xDE
  | .inx => 0xE8
  | .iny => 0xC8
  | .dex => 0xCA
  | .dey => 0x88
  | .andImm _ => 0x29
  | .andZp _ => 0x25
  | .andZpx _ => 0x35
  | .andAbs _ => 0x2D
  | .andAbsx _ => 0x3D
  | .andAbsy _ => 0x39
  | .andIndx _ => 0x21
  | .andIndy _ => 0x31
  | .oraImm _ => 0x09
  | .oraZp _ => 0x05
  | .oraZpx _ => 0x15
  | .oraAbs _ => 0x0D
  | .oraAbsx _ => 0x1D
  | .oraAbsy _ => 0x19
  | .oraIndx _ => 0x01
  | .oraIndy _ => 0x11
  | .eorImm _ => 0x49
  | .eorZp _ => 0x45
  | .eorZpx _ => 0x55
  | .eorAbs _ => 0x4D
  | .eorAbsx _ => 0x5D
  | .eorAbsy _ => 0x59
  | .eorIndx _ => 0x41
  | .eorIndy _ => 0x51
  | .aslAcc => 0x0A
  | .aslZp _ => 0x06
  | .aslZpx _ => 0x16
  | .aslAbs _ => 0x0E
  | .aslAbsx _ => 0x1E
  | .lsrAcc => 0x4A
  | .lsrZp _ => 0x46
  | .lsrZpx _ => 0x56
  | .lsrAbs _ => 0x4E
  | .lsrAbsx _ => 0x5E
  | .bcc _ => 0x90
  | .bcs _ => 0xB0
  | .beq _ => 0xF0
  | .bne _ => 0xD0
  | .bmi _ => 0x30
  | .bpl _ => 0x10
  | .bvc _ => 0x50
  | .bvs _ => 0x70
  | .jmpAbs _ => 0x4C
  | .jmpInd _ => 0x6C
  | .jsr _ => 0x20
  | .rts => 0x60
  | .pha => 0x48
  | .pla => 0x68
  | .php => 0x08
  | .tax => 0xAA
  | .tay => 0xA8
  | .tsx => 0xBA
  | .txa => 0x8A
  | .txs => 0x9A
  | .tya => 0x98
  | .clc => 0x18
  | .sec => 0x38
  | .cli => 0x58
  | .sei => 0x78
  | .clv => 0xB8
  | .cld => 0xD8
  | .sed => 0xF8
  | .nop => 0xEA
  | .brk => 0x00
  | .plp => 0x28
  | .rolAcc => 0x2A
  | .rolZp _ => 0x26
  | .rolZpx _ => 0x36
  | .rolAbs _ => 0x2E
  | .rolAbsx _ => 0x3E
  | .rorAcc => 0x6A
  | .rorZp _ => 0x66
  | .rorZpx _ => 0x76
  | .rorAbs _ => 0x6E
  | .rorAbsx _ => 0x7E
  | .rti => 0x40
  | .bitZp _ => 0x24
  | .bitAbs _ => 0x2C

/-- The operand bytes of a memory operand in memory order (R102, R103). -/
def MemOperand.bytes : MemOperand → List Byte
  | .zp b => [b]
  | .zpx b => [b]
  | .zpy b => [b]
  | .indx b => [b]
  | .indy b => [b]
  | .abs w => [loByte w, hiByte w]
  | .absx w => [loByte w, hiByte w]
  | .absy w => [loByte w, hiByte w]

/-- The operand bytes of an operand in memory order (R102, R103). -/
def Operand.bytes : Operand → List Byte
  | .imp => []
  | .acc => []
  | .imm b => [b]
  | .mem m => m.bytes
  | .ind w => [loByte w, hiByte w]
  | .rel off => [off]

/-- The bytes of an instruction, opcode byte first (R102). -/
def encode (i : Instr) : List Byte := i.opcode :: i.operand.bytes

/-- The three bytes of an instruction given as one number, bit 0 being the least significant bit of the first byte;
bits at and above `nbits` are 0. Three bytes is the longest instruction (R100). -/
def tableBytes (nbits w : Nat) : List Byte :=
  let v := w % 2 ^ nbits
  [BitVec.ofNat 8 v, BitVec.ofNat 8 (v / 256), BitVec.ofNat 8 (v / 65536)]

/-- The instruction the decoder reads from an opcode-table word. -/
def decodeTableWord (nbits w : Nat) : Option Instr :=
  match decode (tableBytes nbits w) with
  | .ok (i, _) => some i
  | .error _ => none

end Sys2Proof
end

