-- ==== Sys2Proof/Machine/State.lean ====
section
/-! DEFINITION. The whole state of the machine (10_state.md R20, "the following and nothing else"), as plain data, and
its value at power-up. -/

namespace Sys2Proof.Machine

open Sys2Proof

/-- The memory array `M` (R44) as its listed bytes, by rising address; an unlisted byte reads 0x00, the value `init`
gives every byte (70_reset_and_hazards.md R390). -/
abbrev Memory := List Host.Cell

/-- The state of R20. Each flag is a bit of its own and no byte view of them exists (R29). -/
@[ext]
structure State where
  /-- `A`, the accumulator (R21). -/
  a : Byte
  /-- `X`, index register X (R22). -/
  x : Byte
  /-- `Y`, index register Y (R23). -/
  y : Byte
  /-- `SP`, the stack pointer (R24). -/
  sp : Byte
  /-- `PC`, between steps the address of the next opcode byte (R25). -/
  pc : Addr
  /-- `N`, negative (R30). -/
  n : Bool
  /-- `V`, overflow (R31). -/
  v : Bool
  /-- `B`, break; no instruction writes it (R32). -/
  b : Bool
  /-- `D`, decimal; no effect on arithmetic (R33). -/
  d : Bool
  /-- `I`, interrupt-disable; it masks nothing (R34). -/
  i : Bool
  /-- `Z`, zero (R35). -/
  z : Bool
  /-- `C`, carry (R36). -/
  c : Bool
  /-- `RUN`: true is Running, false is Halted (R40). -/
  run : Bool
  /-- `LAST`, the last accessed address, which only the host sees (R41). -/
  last : Option Addr
  /-- `M`, the memory (R44). -/
  mem : Memory
  deriving DecidableEq, Repr

/-- Reasons a step stops with a fault: there are none. No access, handler or address can fault (20_memory.md R62, R76;
60_exceptions.md R341); the one exception, InvalidOpcode, is taken as a next state (log entry 10). The type has no
constructor, so `.fault` can be raised by nobody, which is safe. -/
inductive Fault where
  deriving DecidableEq, Repr

/-- Reasons a step is refused. -/
inductive Refusal where
  /-- An instruction without a meaning, rejected by name in its arm of `exec`; raised by nobody, since every arm has a
  meaning. Safe: a step that stops proves nothing false. -/
  | notModelled (mnemonic : String)
  deriving DecidableEq, Repr

/-- What one step or one meaning answers. -/
abbrev Outcome := Host.Outcome State Fault Refusal

/-- The machine right after power-up and reset with nothing in memory (R50; 70_reset_and_hazards.md R390, R391, R393;
95_test_vectors.md H1): registers and flags 0, running, `LAST` none, every byte 0x00, and therefore `PC`, the word at
0xFFFC, 0x0000. A program is loaded from outside (`State.launch`; log entry 4). -/
def State.reset : State where
  a := 0x00
  x := 0x00
  y := 0x00
  sp := 0x00
  pc := 0x0000
  n := false
  v := false
  b := false
  d := false
  i := false
  z := false
  c := false
  run := true
  last := none
  mem := []

end Sys2Proof.Machine
end

