-- ==== Sys2Proof/Machine/Ops.lean ====
section
/-! DEFINITION. The named operations over memory and registers: reading and writing bytes and words (20_memory.md),
the stack primitives (45_stack_transfer_flag.md R280, R281), taking the one exception and coming back from it by reset
(60_exceptions.md R341, R355; 70_reset_and_hazards.md R391). -/

namespace Sys2Proof.Machine

open Sys2Proof

/-! Memory as a list in canonical form. -/

/-- What an unlisted byte reads as: "zero all bytes" (70_reset_and_hazards.md R390). -/
def Memory.unlisted : Byte := 0x00

/-- The addresses rise strictly from `lo`, lie inside the 65536-byte array, and no listed byte is the unlisted one. -/
def Memory.wfFrom : Nat → Memory → Bool
  | _, [] => true
  | lo, (k, w) :: rest => decide (lo ≤ k) && decide (k < 65536) && (w != Memory.unlisted) && Memory.wfFrom (k + 1) rest

/-- The canonical form: equal memories are equal lists. -/
def Memory.wf (m : Memory) : Bool := Memory.wfFrom 0 m

/-- The byte at an address. -/
def Memory.read : Memory → Nat → Byte
  | [], _ => Memory.unlisted
  | (k, w) :: rest, a => if k = a then w else Memory.read rest a

/-- The memory with nothing listed at an address. -/
def Memory.erase (m : Memory) (a : Nat) : Memory := m.filter fun c => c.1 != a

/-- The memory with a byte listed at an address, in its place by rising address. -/
def Memory.insert : Memory → Nat → Byte → Memory
  | [], a, w => [(a, w)]
  | (k, u) :: rest, a, w =>
    if a < k then (a, w) :: (k, u) :: rest
    else if a = k then (a, w) :: rest
    else (k, u) :: Memory.insert rest a w

/-- The memory with one byte replaced (R67); writing the unlisted byte removes the entry. -/
def Memory.write (m : Memory) (a : Nat) (w : Byte) : Memory :=
  if w = Memory.unlisted then Memory.erase m a else Memory.insert m a w

/-! Updates of one field. -/

def State.setA (s : State) (w : Byte) : State := { s with a := w }
def State.setX (s : State) (w : Byte) : State := { s with x := w }
def State.setY (s : State) (w : Byte) : State := { s with y := w }
def State.setSp (s : State) (w : Byte) : State := { s with sp := w }
def State.setPc (s : State) (w : Addr) : State := { s with pc := w }
def State.setN (s : State) (w : Bool) : State := { s with n := w }
def State.setV (s : State) (w : Bool) : State := { s with v := w }
def State.setD (s : State) (w : Bool) : State := { s with d := w }
def State.setI (s : State) (w : Bool) : State := { s with i := w }
def State.setZ (s : State) (w : Bool) : State := { s with z := w }
def State.setC (s : State) (w : Bool) : State := { s with c := w }
def State.setRun (s : State) (w : Bool) : State := { s with run := w }
def State.setLast (s : State) (w : Option Addr) : State := { s with last := w }
def State.setMem (s : State) (w : Memory) : State := { s with mem := w }

/-! The memory interface (20_memory.md R60). An `Addr` is already reduced mod 65536 (R62). -/

/-- `MemRead(a, 1)`: a pure read (R66). -/
def State.readByte (s : State) (a : Addr) : Byte := s.mem.read a.toNat

/-- `MemRead(a, 2)`: low byte at `a`, high byte at `a + 1` mod 65536, no page wrap (R64). -/
def State.readWord (s : State) (a : Addr) : Addr := wordOf (s.readByte a) (s.readByte (a + 1))

/-- `MemWrite(a, 1, w)`: a raw store at any address (R67, R73). -/
def State.writeByte (s : State) (a : Addr) (w : Byte) : State := s.setMem (s.mem.write a.toNat w)

/-- The bytes of a list stored at rising addresses mod 65536. -/
def State.storeBytes : State → Addr → List Byte → State
  | s, _, [] => s
  | s, a, w :: rest => State.storeBytes (s.writeByte a w) (a + 1) rest

/-! The stack (10_state.md R24). -/

/-- `STACK_BASE` as the machine uses it. -/
def stackBase : Addr := Config.stackBase

/-- The stack byte that `SP` selects: `STACK_BASE + SP`. -/
def stackAddr (sp : Byte) : Addr := stackBase + zext16 sp

/-- `Push(w)`: store, then decrement `SP` mod 256 (R280). -/
def State.push (s : State) (w : Byte) : State := (s.writeByte (stackAddr s.sp) w).setSp (s.sp - 1)

/-- The byte `Pull()` returns: the one above the stack pointer (R281). -/
def State.pullByte (s : State) : Byte := s.readByte (stackAddr (s.sp + 1))

/-- What `Pull()` leaves: `SP` incremented mod 256, the byte still in memory (R281). -/
def State.pullRest (s : State) : State := s.setSp (s.sp + 1)

/-! The exception and the way out of it. -/

/-- Taking InvalidOpcode (60_exceptions.md R341): `PC` one past the offending byte, `RUN` false, nothing else: nothing is
saved or pushed and no vector is read (R342, R353). -/
def State.raiseInvalidOpcode (s : State) : State := (s.setPc (s.pc + 1)).setRun false

/-- A step while halted changes nothing (60_exceptions.md R343). -/
def State.stayHalted (s : State) : State := s

/-- The reset vector (20_memory.md R70). -/
def resetVector : Addr := 0xFFFC

/-- `reset()` (70_reset_and_hazards.md R391), the only way out of the halt (60_exceptions.md R355): registers and flags
zero, `PC` from the reset vector, running; memory and `LAST` as they were. -/
def State.hostReset (s : State) : State where
  a := 0x00
  x := 0x00
  y := 0x00
  sp := 0x00
  pc := s.readWord resetVector
  n := false
  v := false
  b := false
  d := false
  i := false
  z := false
  c := false
  run := true
  last := s.last
  mem := s.mem

end Sys2Proof.Machine
end

