-- ==== Sys2Proof/Machine/Operands.lean ====
section
/-! DEFINITION. The addressing-mode resolver (40_step_and_addressing.md R144 to R157, R160) and the operand access
helpers (R161, R162). The state is the one at the start of the step: `PC` is the address of the opcode byte, and the
operand bytes are already fields of the instruction (log entries 1 and 2). -/

namespace Sys2Proof.Machine

open Sys2Proof

/-- The effective address of a memory operand. Zero-page indexing wraps mod 256 (R149, R150, R152), every other sum
mod 65536 (R153, R155, R156), and a pointer's high byte is at the next address with no page wrap (R64). -/
def memAddr (m : MemOperand) (s : State) : Addr :=
  match m with
  | .zp b => zext16 b
  | .zpx b => zext16 (b + s.x)
  | .zpy b => zext16 (b + s.y)
  | .abs w => w
  | .absx w => w + zext16 s.x
  | .absy w => w + zext16 s.y
  | .indx b => s.readWord (zext16 (b + s.x))
  | .indy b => s.readWord (zext16 b) + zext16 s.y

/-- The effective address the resolver yields, or none (R145 to R157). The immediate mode yields the address of its
operand byte, the one after the opcode (R147). -/
def effAddr (o : Operand) (s : State) : Option Addr :=
  match o with
  | .imp => none
  | .acc => none
  | .imm _ => some (s.pc + 1)
  | .mem m => some (memAddr m s)
  | .ind w => some (s.readWord w)
  | .rel _ => none

/-- The resolver's writes: `PC` past the opcode and the operand bytes (R140, R144; 10_state.md R26), and a resolved
address into `LAST` (R160). -/
def State.resolve (s : State) (o : Operand) : State :=
  let s1 := s.setPc (s.pc + BitVec.ofNat 16 o.length)
  match effAddr o s with
  | some ea => s1.setLast (some ea)
  | none => s1

/-- The operand of an instruction that only reads: immediate, or a memory byte. -/
inductive Source where
  | imm (b : Byte)
  | mem (m : MemOperand)
  deriving DecidableEq, Repr

/-- The operand of a shift: the accumulator, or a memory byte. -/
inductive Target where
  | acc
  | mem (m : MemOperand)
  deriving DecidableEq, Repr

/-- A source as an operand. -/
def Source.operand : Source → Operand
  | .imm b => .imm b
  | .mem m => .mem m

/-- A target as an operand. -/
def Target.operand : Target → Operand
  | .acc => .acc
  | .mem m => .mem m

/-- `Operand(mode, ea)` of R161, and none for the three modes in which it is not defined. -/
def operandValue (o : Operand) (s : State) : Option Byte :=
  match o with
  | .acc => some s.a
  | .imm b => some b
  | .mem m => some (s.readByte (memAddr m s))
  | .imp => none
  | .ind _ => none
  | .rel _ => none

/-- `Operand(mode, ea)` of a reading instruction (R161). -/
def sourceValue (src : Source) (s : State) : Byte :=
  match src with
  | .imm b => b
  | .mem m => s.readByte (memAddr m s)

/-- `Operand(mode, ea)` of a shift (R161). -/
def targetValue (t : Target) (s : State) : Byte :=
  match t with
  | .acc => s.a
  | .mem m => s.readByte (memAddr m s)

/-- `WriteBack(mode, ea, r)` of R162 into `s1`, at the address the target has in the state `s` it was resolved in. -/
def writeBack (t : Target) (s : State) (r : Byte) (s1 : State) : State :=
  match t with
  | .acc => s1.setA r
  | .mem m => s1.writeByte (memAddr m s) r

end Sys2Proof.Machine
end

