-- ==== Sys2Proof/Machine/Flags.lean ====
section
/-! DEFINITION. Every flag computation of the spec: zero and negative (10_state.md R38), carry and overflow of the
8-bit addition (42_arithmetic.md R201, R202), the carry of a compare (R204), and the packed flag byte (10_state.md
R37). -/

namespace Sys2Proof.Machine

open Sys2Proof

/-- `SetZN(w)`: `Z` when the byte is 0x00, `N` its bit 7 (R38). -/
def State.setZN (s : State) (w : Byte) : State := (s.setZ (w == 0)).setN (w.getLsbD 7)

/-- The unmasked sum `A + m + C`, 0 to 511 (R201). -/
def sumOf (a m : Byte) (c : Bool) : Nat := a.toNat + m.toNat + c.toNat

/-- Carry-out: the unmasked sum is outside 0 to 255 (R201). -/
def carryOut (t : Nat) : Bool := decide (255 < t)

/-- The unmasked sum narrowed mod 256 (R201). -/
def narrow (t : Nat) : Byte := BitVec.ofNat 8 t

/-- Signed overflow: both inputs differ from the result in bit 7 (R201). -/
def overflow (a m r : Byte) : Bool := ((a ^^^ r) &&& (m ^^^ r) &&& 0x80) != 0

/-- `A + m + C` into `A`, with `C`, `V`, `Z` and `N`; `D` is ignored (R201, R203). -/
def State.addToA (s : State) (m : Byte) : State :=
  let t := sumOf s.a m s.c
  let r := narrow t
  (((s.setC (carryOut t)).setV (overflow s.a m r)).setA r).setZN r

/-- The flags of comparing a register's value with `m`: `C` when it is not below, `Z` and `N` of the difference (R204). -/
def State.setCompare (s : State) (reg m : Byte) : State :=
  (s.setC (decide (m.toNat ≤ reg.toNat))).setZN (reg - m)

/-- A flag at a bit position of the packed byte. -/
def flagBit (f : Bool) (k : Nat) : Byte := if f then (1 : Byte) <<< k else 0

/-- `PHP_BIT5` as the machine uses it. -/
def phpBit5 : Bool := Config.phpBit5

/-- `Pack()`: `N V PHP_BIT5 B D I Z C` from bit 7 to bit 0 (R37). -/
def State.pack (s : State) : Byte :=
  flagBit s.n 7 ||| flagBit s.v 6 ||| flagBit phpBit5 5 ||| flagBit s.b 4
    ||| flagBit s.d 3 ||| flagBit s.i 2 ||| flagBit s.z 1 ||| flagBit s.c 0

end Sys2Proof.Machine
end

