-- ==== Sys2Proof/Machine/Arithmetic.lean ====
section
/-! DEFINITION. Arithmetic, compare, increment and decrement (42_arithmetic.md R200 to R212). -/

namespace Sys2Proof.Machine

open Sys2Proof

/-- Add with carry (R201). -/
def addCarry (src : Source) (s : State) : State := (s.resolve src.operand).addToA (sourceValue src s)

/-- Subtract with carry: the addition of the operand's ones' complement (R202). -/
def subCarry (src : Source) (s : State) : State := (s.resolve src.operand).addToA (sourceValue src s ^^^ 0xFF)

/-- Compare a register's value with the operand (R204 to R206). -/
def compareWith (reg : Byte) (src : Source) (s : State) : State :=
  (s.resolve src.operand).setCompare reg (sourceValue src s)

/-- Add 1 to the memory byte mod 256 (R207). -/
def increment (m : MemOperand) (s : State) : State :=
  let r := s.readByte (memAddr m s) + 1
  ((s.resolve (.mem m)).writeByte (memAddr m s) r).setZN r

/-- Subtract 1 from the memory byte mod 256 (R208). -/
def decrement (m : MemOperand) (s : State) : State :=
  let r := s.readByte (memAddr m s) - 1
  ((s.resolve (.mem m)).writeByte (memAddr m s) r).setZN r

/-- An implied instruction that puts a byte into `X` and sets `Z`, `N` (R209, R211; 45_stack_transfer_flag.md R290, R292). -/
def setXFlags (w : Byte) (s : State) : State := ((s.resolve .imp).setX w).setZN w

/-- An implied instruction that puts a byte into `Y` and sets `Z`, `N` (R210, R212; 45_stack_transfer_flag.md R291). -/
def setYFlags (w : Byte) (s : State) : State := ((s.resolve .imp).setY w).setZN w

/-! ADC: 42_arithmetic.md R201. -/

/-- `ADC #nn`, opcode 0x69 (R201, R147). -/
def execAdcImm (b : Byte) (s : State) : Outcome := .next (addCarry (.imm b) s)

/-- `ADC nn`, opcode 0x65 (R201, R148). -/
def execAdcZp (b : Byte) (s : State) : Outcome := .next (addCarry (.mem (.zp b)) s)

/-- `ADC nn,X`, opcode 0x75 (R201, R149). -/
def execAdcZpx (b : Byte) (s : State) : Outcome := .next (addCarry (.mem (.zpx b)) s)

/-- `ADC nnnn`, opcode 0x6D (R201, R154). -/
def execAdcAbs (w : Addr) (s : State) : Outcome := .next (addCarry (.mem (.abs w)) s)

/-- `ADC nnnn,X`, opcode 0x7D (R201, R155). -/
def execAdcAbsx (w : Addr) (s : State) : Outcome := .next (addCarry (.mem (.absx w)) s)

/-- `ADC nnnn,Y`, opcode 0x79 (R201, R156). -/
def execAdcAbsy (w : Addr) (s : State) : Outcome := .next (addCarry (.mem (.absy w)) s)

/-- `ADC (nn,X)`, opcode 0x61 (R201, R152). -/
def execAdcIndx (b : Byte) (s : State) : Outcome := .next (addCarry (.mem (.indx b)) s)

/-- `ADC (nn),Y`, opcode 0x71 (R201, R153). -/
def execAdcIndy (b : Byte) (s : State) : Outcome := .next (addCarry (.mem (.indy b)) s)

/-! SBC: 42_arithmetic.md R202. -/

/-- `SBC #nn`, opcode 0xE9 (R202, R147). -/
def execSbcImm (b : Byte) (s : State) : Outcome := .next (subCarry (.imm b) s)

/-- `SBC nn`, opcode 0xE5 (R202, R148). -/
def execSbcZp (b : Byte) (s : State) : Outcome := .next (subCarry (.mem (.zp b)) s)

/-- `SBC nn,X`, opcode 0xF5 (R202, R149). -/
def execSbcZpx (b : Byte) (s : State) : Outcome := .next (subCarry (.mem (.zpx b)) s)

/-- `SBC nnnn`, opcode 0xED (R202, R154). -/
def execSbcAbs (w : Addr) (s : State) : Outcome := .next (subCarry (.mem (.abs w)) s)

/-- `SBC nnnn,X`, opcode 0xFD (R202, R155). -/
def execSbcAbsx (w : Addr) (s : State) : Outcome := .next (subCarry (.mem (.absx w)) s)

/-- `SBC nnnn,Y`, opcode 0xF9 (R202, R156). -/
def execSbcAbsy (w : Addr) (s : State) : Outcome := .next (subCarry (.mem (.absy w)) s)

/-- `SBC (nn,X)`, opcode 0xE1 (R202, R152). -/
def execSbcIndx (b : Byte) (s : State) : Outcome := .next (subCarry (.mem (.indx b)) s)

/-- `SBC (nn),Y`, opcode 0xF1 (R202, R153). -/
def execSbcIndy (b : Byte) (s : State) : Outcome := .next (subCarry (.mem (.indy b)) s)

/-! CMP: 42_arithmetic.md R204. -/

/-- `CMP #nn`, opcode 0xC9 (R204, R147). -/
def execCmpImm (b : Byte) (s : State) : Outcome := .next (compareWith s.a (.imm b) s)

/-- `CMP nn`, opcode 0xC5 (R204, R148). -/
def execCmpZp (b : Byte) (s : State) : Outcome := .next (compareWith s.a (.mem (.zp b)) s)

/-- `CMP nn,X`, opcode 0xD5 (R204, R149). -/
def execCmpZpx (b : Byte) (s : State) : Outcome := .next (compareWith s.a (.mem (.zpx b)) s)

/-- `CMP nnnn`, opcode 0xCD (R204, R154). -/
def execCmpAbs (w : Addr) (s : State) : Outcome := .next (compareWith s.a (.mem (.abs w)) s)

/-- `CMP nnnn,X`, opcode 0xDD (R204, R155). -/
def execCmpAbsx (w : Addr) (s : State) : Outcome := .next (compareWith s.a (.mem (.absx w)) s)

/-- `CMP nnnn,Y`, opcode 0xD9 (R204, R156). -/
def execCmpAbsy (w : Addr) (s : State) : Outcome := .next (compareWith s.a (.mem (.absy w)) s)

/-- `CMP (nn,X)`, opcode 0xC1 (R204, R152). -/
def execCmpIndx (b : Byte) (s : State) : Outcome := .next (compareWith s.a (.mem (.indx b)) s)

/-- `CMP (nn),Y`, opcode 0xD1 (R204, R153). -/
def execCmpIndy (b : Byte) (s : State) : Outcome := .next (compareWith s.a (.mem (.indy b)) s)

/-! CPX: 42_arithmetic.md R205. -/

/-- `CPX #nn`, opcode 0xE0 (R205, R147). -/
def execCpxImm (b : Byte) (s : State) : Outcome := .next (compareWith s.x (.imm b) s)

/-- `CPX nn`, opcode 0xE4 (R205, R148). -/
def execCpxZp (b : Byte) (s : State) : Outcome := .next (compareWith s.x (.mem (.zp b)) s)

/-- `CPX nnnn`, opcode 0xEC (R205, R154). -/
def execCpxAbs (w : Addr) (s : State) : Outcome := .next (compareWith s.x (.mem (.abs w)) s)

/-! CPY: 42_arithmetic.md R206. -/

/-- `CPY #nn`, opcode 0xC0 (R206, R147). -/
def execCpyImm (b : Byte) (s : State) : Outcome := .next (compareWith s.y (.imm b) s)

/-- `CPY nn`, opcode 0xC4 (R206, R148). -/
def execCpyZp (b : Byte) (s : State) : Outcome := .next (compareWith s.y (.mem (.zp b)) s)

/-- `CPY nnnn`, opcode 0xCC (R206, R154). -/
def execCpyAbs (w : Addr) (s : State) : Outcome := .next (compareWith s.y (.mem (.abs w)) s)

/-! INC: 42_arithmetic.md R207. -/

/-- `INC nn`, opcode 0xE6 (R207, R148). -/
def execIncZp (b : Byte) (s : State) : Outcome := .next (increment (.zp b) s)

/-- `INC nn,X`, opcode 0xF6 (R207, R149). -/
def execIncZpx (b : Byte) (s : State) : Outcome := .next (increment (.zpx b) s)

/-- `INC nnnn`, opcode 0xEE (R207, R154). -/
def execIncAbs (w : Addr) (s : State) : Outcome := .next (increment (.abs w) s)

/-- `INC nnnn,X`, opcode 0xFE (R207, R155). -/
def execIncAbsx (w : Addr) (s : State) : Outcome := .next (increment (.absx w) s)

/-! DEC: 42_arithmetic.md R208. -/

/-- `DEC nn`, opcode 0xC6 (R208, R148). -/
def execDecZp (b : Byte) (s : State) : Outcome := .next (decrement (.zp b) s)

/-- `DEC nn,X`, opcode 0xD6 (R208, R149). -/
def execDecZpx (b : Byte) (s : State) : Outcome := .next (decrement (.zpx b) s)

/-- `DEC nnnn`, opcode 0xCE (R208, R154). -/
def execDecAbs (w : Addr) (s : State) : Outcome := .next (decrement (.abs w) s)

/-- `DEC nnnn,X`, opcode 0xDE (R208, R155). -/
def execDecAbsx (w : Addr) (s : State) : Outcome := .next (decrement (.absx w) s)

/-! INX: 42_arithmetic.md R209. -/

/-- `INX`, opcode 0xE8 (R209, R145). -/
def execInx (s : State) : Outcome := .next (setXFlags (s.x + 1) s)

/-! INY: 42_arithmetic.md R210. -/

/-- `INY`, opcode 0xC8 (R210, R145). -/
def execIny (s : State) : Outcome := .next (setYFlags (s.y + 1) s)

/-! DEX: 42_arithmetic.md R211. -/

/-- `DEX`, opcode 0xCA (R211, R145). -/
def execDex (s : State) : Outcome := .next (setXFlags (s.x - 1) s)

/-! DEY: 42_arithmetic.md R212. -/

/-- `DEY`, opcode 0x88 (R212, R145). -/
def execDey (s : State) : Outcome := .next (setYFlags (s.y - 1) s)

end Sys2Proof.Machine
end

