-- ==== Sys2Proof/Machine/Control.lean ====
section
/-! DEFINITION. Control transfer (44_control.md R250 to R262). Each leaves `LAST` none (40_step_and_addressing.md
R160). -/

namespace Sys2Proof.Machine

open Sys2Proof

/-- A relative branch: the signed offset is added to the `PC` past the instruction if the condition holds (R250). -/
def branch (cond : Bool) (off : Byte) (s : State) : State :=
  let s1 := s.resolve (.rel off)
  (s1.setPc (if cond then s1.pc + sext16 off else s1.pc)).setLast none

/-- Jump to a target, the stack untouched (R259). -/
def jumpTo (o : Operand) (target : Addr) (s : State) : State := ((s.resolve o).setPc target).setLast none

/-- Push the address of the next instruction, high byte first, and jump (R260). -/
def callSubroutine (w : Addr) (s : State) : State :=
  let s1 := s.resolve (.mem (.abs w))
  ((((s1.push (hiByte s1.pc)).push (loByte s1.pc)).setPc w)).setLast none

/-- Pull the low and then the high byte of `PC`; nothing is added (R261). -/
def returnFromSubroutine (s : State) : State :=
  let s1 := s.resolve .imp
  let s2 := s1.pullRest
  (s2.pullRest.setPc (wordOf s1.pullByte s2.pullByte)).setLast none

/-! BCC: 44_control.md R251. -/

/-- `BCC target`, opcode 0x90 (R251, R157). -/
def execBcc (off : Byte) (s : State) : Outcome := .next (branch (!s.c) off s)

/-! BCS: 44_control.md R252. -/

/-- `BCS target`, opcode 0xB0 (R252, R157). -/
def execBcs (off : Byte) (s : State) : Outcome := .next (branch (s.c) off s)

/-! BEQ: 44_control.md R253. -/

/-- `BEQ target`, opcode 0xF0 (R253, R157). -/
def execBeq (off : Byte) (s : State) : Outcome := .next (branch (s.z) off s)

/-! BNE: 44_control.md R254. -/

/-- `BNE target`, opcode 0xD0 (R254, R157). -/
def execBne (off : Byte) (s : State) : Outcome := .next (branch (!s.z) off s)

/-! BMI: 44_control.md R255. -/

/-- `BMI target`, opcode 0x30 (R255, R157). -/
def execBmi (off : Byte) (s : State) : Outcome := .next (branch (s.n) off s)

/-! BPL: 44_control.md R256. -/

/-- `BPL target`, opcode 0x10 (R256, R157). -/
def execBpl (off : Byte) (s : State) : Outcome := .next (branch (!s.n) off s)

/-! BVC: 44_control.md R257. -/

/-- `BVC target`, opcode 0x50 (R257, R157). -/
def execBvc (off : Byte) (s : State) : Outcome := .next (branch (!s.v) off s)

/-! BVS: 44_control.md R258. -/

/-- `BVS target`, opcode 0x70 (R258, R157). -/
def execBvs (off : Byte) (s : State) : Outcome := .next (branch (s.v) off s)

/-! JMP: 44_control.md R259. -/

/-- `JMP nnnn`, opcode 0x4C (R259, R154). -/
def execJmpAbs (w : Addr) (s : State) : Outcome := .next (jumpTo (.mem (.abs w)) w s)

/-- `JMP (nnnn)`, opcode 0x6C (R259, R151). -/
def execJmpInd (w : Addr) (s : State) : Outcome := .next (jumpTo (.ind w) (s.readWord w) s)

/-! JSR: 44_control.md R260. -/

/-- `JSR nnnn`, opcode 0x20 (R260, R154). -/
def execJsr (w : Addr) (s : State) : Outcome := .next (callSubroutine w s)

/-! RTS: 44_control.md R261. -/

/-- `RTS`, opcode 0x60 (R261, R145). -/
def execRts (s : State) : Outcome := .next (returnFromSubroutine s)

end Sys2Proof.Machine
end

