-- ==== Sys2Proof/Machine/Inert.lean ====
section
/-! DEFINITION. The inert opcodes (46_inert.md R320 to R326): "still resolve the operand ... and return
`ExecutedAsNoop`". Nothing else changes; the byte at the effective address is not read. -/

namespace Sys2Proof.Machine

open Sys2Proof

/-- Consume the operand bytes and record the resolved address, nothing more (R320). -/
def consumeOperand (o : Operand) (s : State) : State := s.resolve o

/-! BRK: 46_inert.md R321. -/

/-- `BRK`, opcode 0x00 (R321, R145). -/
def execBrk (s : State) : Outcome := .next (consumeOperand .imp s)

/-! PLP: 46_inert.md R322. -/

/-- `PLP`, opcode 0x28 (R322, R145). -/
def execPlp (s : State) : Outcome := .next (consumeOperand .imp s)

/-! ROL: 46_inert.md R323. -/

/-- `ROL A`, opcode 0x2A (R323, R146). -/
def execRolAcc (s : State) : Outcome := .next (consumeOperand .acc s)

/-- `ROL nn`, opcode 0x26 (R323, R148). -/
def execRolZp (b : Byte) (s : State) : Outcome := .next (consumeOperand (.mem (.zp b)) s)

/-- `ROL nn,X`, opcode 0x36 (R323, R149). -/
def execRolZpx (b : Byte) (s : State) : Outcome := .next (consumeOperand (.mem (.zpx b)) s)

/-- `ROL nnnn`, opcode 0x2E (R323, R154). -/
def execRolAbs (w : Addr) (s : State) : Outcome := .next (consumeOperand (.mem (.abs w)) s)

/-- `ROL nnnn,X`, opcode 0x3E (R323, R155). -/
def execRolAbsx (w : Addr) (s : State) : Outcome := .next (consumeOperand (.mem (.absx w)) s)

/-! ROR: 46_inert.md R324. -/

/-- `ROR A`, opcode 0x6A (R324, R146). -/
def execRorAcc (s : State) : Outcome := .next (consumeOperand .acc s)

/-- `ROR nn`, opcode 0x66 (R324, R148). -/
def execRorZp (b : Byte) (s : State) : Outcome := .next (consumeOperand (.mem (.zp b)) s)

/-- `ROR nn,X`, opcode 0x76 (R324, R149). -/
def execRorZpx (b : Byte) (s : State) : Outcome := .next (consumeOperand (.mem (.zpx b)) s)

/-- `ROR nnnn`, opcode 0x6E (R324, R154). -/
def execRorAbs (w : Addr) (s : State) : Outcome := .next (consumeOperand (.mem (.abs w)) s)

/-- `ROR nnnn,X`, opcode 0x7E (R324, R155). -/
def execRorAbsx (w : Addr) (s : State) : Outcome := .next (consumeOperand (.mem (.absx w)) s)

/-! RTI: 46_inert.md R325. -/

/-- `RTI`, opcode 0x40 (R325, R145). -/
def execRti (s : State) : Outcome := .next (consumeOperand .imp s)

/-! BIT: 46_inert.md R326. -/

/-- `BIT nn`, opcode 0x24 (R326, R148). -/
def execBitZp (b : Byte) (s : State) : Outcome := .next (consumeOperand (.mem (.zp b)) s)

/-- `BIT nnnn`, opcode 0x2C (R326, R154). -/
def execBitAbs (w : Addr) (s : State) : Outcome := .next (consumeOperand (.mem (.abs w)) s)

end Sys2Proof.Machine
end

