-- ==== Sys2Proof/Machine/LoadStore.lean ====
section
/-! DEFINITION. Loads and stores (41_load_store.md R180 to R185). -/

namespace Sys2Proof.Machine

open Sys2Proof

/-- Load `A` and set `Z`, `N` (R180). -/
def loadA (src : Source) (s : State) : State :=
  ((s.resolve src.operand).setA (sourceValue src s)).setZN (sourceValue src s)

/-- Load `X` and set `Z`, `N` (R181). -/
def loadX (src : Source) (s : State) : State :=
  ((s.resolve src.operand).setX (sourceValue src s)).setZN (sourceValue src s)

/-- Load `Y` and set `Z`, `N` (R182). -/
def loadY (src : Source) (s : State) : State :=
  ((s.resolve src.operand).setY (sourceValue src s)).setZN (sourceValue src s)

/-- Store a register's byte at the effective address; no flag (R183 to R185). -/
def storeByte (m : MemOperand) (w : Byte) (s : State) : State :=
  (s.resolve (.mem m)).writeByte (memAddr m s) w

/-! LDA: 41_load_store.md R180. -/

/-- `LDA #nn`, opcode 0xA9 (R180, R147). -/
def execLdaImm (b : Byte) (s : State) : Outcome := .next (loadA (.imm b) s)

/-- `LDA nn`, opcode 0xA5 (R180, R148). -/
def execLdaZp (b : Byte) (s : State) : Outcome := .next (loadA (.mem (.zp b)) s)

/-- `LDA nn,X`, opcode 0xB5 (R180, R149). -/
def execLdaZpx (b : Byte) (s : State) : Outcome := .next (loadA (.mem (.zpx b)) s)

/-- `LDA nnnn`, opcode 0xAD (R180, R154). -/
def execLdaAbs (w : Addr) (s : State) : Outcome := .next (loadA (.mem (.abs w)) s)

/-- `LDA nnnn,X`, opcode 0xBD (R180, R155). -/
def execLdaAbsx (w : Addr) (s : State) : Outcome := .next (loadA (.mem (.absx w)) s)

/-- `LDA nnnn,Y`, opcode 0xB9 (R180, R156). -/
def execLdaAbsy (w : Addr) (s : State) : Outcome := .next (loadA (.mem (.absy w)) s)

/-- `LDA (nn,X)`, opcode 0xA1 (R180, R152). -/
def execLdaIndx (b : Byte) (s : State) : Outcome := .next (loadA (.mem (.indx b)) s)

/-- `LDA (nn),Y`, opcode 0xB1 (R180, R153). -/
def execLdaIndy (b : Byte) (s : State) : Outcome := .next (loadA (.mem (.indy b)) s)

/-! LDX: 41_load_store.md R181. -/

/-- `LDX #nn`, opcode 0xA2 (R181, R147). -/
def execLdxImm (b : Byte) (s : State) : Outcome := .next (loadX (.imm b) s)

/-- `LDX nn`, opcode 0xA6 (R181, R148). -/
def execLdxZp (b : Byte) (s : State) : Outcome := .next (loadX (.mem (.zp b)) s)

/-- `LDX nn,Y`, opcode 0xB6 (R181, R150). -/
def execLdxZpy (b : Byte) (s : State) : Outcome := .next (loadX (.mem (.zpy b)) s)

/-- `LDX nnnn`, opcode 0xAE (R181, R154). -/
def execLdxAbs (w : Addr) (s : State) : Outcome := .next (loadX (.mem (.abs w)) s)

/-- `LDX nnnn,Y`, opcode 0xBE (R181, R156). -/
def execLdxAbsy (w : Addr) (s : State) : Outcome := .next (loadX (.mem (.absy w)) s)

/-! LDY: 41_load_store.md R182. -/

/-- `LDY #nn`, opcode 0xA0 (R182, R147). -/
def execLdyImm (b : Byte) (s : State) : Outcome := .next (loadY (.imm b) s)

/-- `LDY nn`, opcode 0xA4 (R182, R148). -/
def execLdyZp (b : Byte) (s : State) : Outcome := .next (loadY (.mem (.zp b)) s)

/-- `LDY nn,X`, opcode 0xB4 (R182, R149). -/
def execLdyZpx (b : Byte) (s : State) : Outcome := .next (loadY (.mem (.zpx b)) s)

/-- `LDY nnnn`, opcode 0xAC (R182, R154). -/
def execLdyAbs (w : Addr) (s : State) : Outcome := .next (loadY (.mem (.abs w)) s)

/-- `LDY nnnn,X`, opcode 0xBC (R182, R155). -/
def execLdyAbsx (w : Addr) (s : State) : Outcome := .next (loadY (.mem (.absx w)) s)

/-! STA: 41_load_store.md R183. -/

/-- `STA nn`, opcode 0x85 (R183, R148). -/
def execStaZp (b : Byte) (s : State) : Outcome := .next (storeByte (.zp b) s.a s)

/-- `STA nn,X`, opcode 0x95 (R183, R149). -/
def execStaZpx (b : Byte) (s : State) : Outcome := .next (storeByte (.zpx b) s.a s)

/-- `STA nnnn`, opcode 0x8D (R183, R154). -/
def execStaAbs (w : Addr) (s : State) : Outcome := .next (storeByte (.abs w) s.a s)

/-- `STA nnnn,X`, opcode 0x9D (R183, R155). -/
def execStaAbsx (w : Addr) (s : State) : Outcome := .next (storeByte (.absx w) s.a s)

/-- `STA nnnn,Y`, opcode 0x99 (R183, R156). -/
def execStaAbsy (w : Addr) (s : State) : Outcome := .next (storeByte (.absy w) s.a s)

/-- `STA (nn,X)`, opcode 0x81 (R183, R152). -/
def execStaIndx (b : Byte) (s : State) : Outcome := .next (storeByte (.indx b) s.a s)

/-- `STA (nn),Y`, opcode 0x91 (R183, R153). -/
def execStaIndy (b : Byte) (s : State) : Outcome := .next (storeByte (.indy b) s.a s)

/-! STX: 41_load_store.md R184. -/

/-- `STX nn`, opcode 0x86 (R184, R148). -/
def execStxZp (b : Byte) (s : State) : Outcome := .next (storeByte (.zp b) s.x s)

/-- `STX nn,Y`, opcode 0x96 (R184, R150). -/
def execStxZpy (b : Byte) (s : State) : Outcome := .next (storeByte (.zpy b) s.x s)

/-- `STX nnnn`, opcode 0x8E (R184, R154). -/
def execStxAbs (w : Addr) (s : State) : Outcome := .next (storeByte (.abs w) s.x s)

/-! STY: 41_load_store.md R185. -/

/-- `STY nn`, opcode 0x84 (R185, R148). -/
def execStyZp (b : Byte) (s : State) : Outcome := .next (storeByte (.zp b) s.y s)

/-- `STY nn,X`, opcode 0x94 (R185, R149). -/
def execStyZpx (b : Byte) (s : State) : Outcome := .next (storeByte (.zpx b) s.y s)

/-- `STY nnnn`, opcode 0x8C (R185, R154). -/
def execStyAbs (w : Addr) (s : State) : Outcome := .next (storeByte (.abs w) s.y s)

end Sys2Proof.Machine
end

