-- ==== Sys2Proof/Machine/LogicShift.lean ====
section
/-! DEFINITION. Logical instructions and shifts (43_logic_shift.md R230 to R234). -/

namespace Sys2Proof.Machine

open Sys2Proof

/-- Put a byte into `A` after resolving a source, and set `Z`, `N` (R230 to R232). -/
def logicResult (src : Source) (r : Byte) (s : State) : State := ((s.resolve src.operand).setA r).setZN r

/-- Bitwise and (R230). -/
def andA (src : Source) (s : State) : State := logicResult src (s.a &&& sourceValue src s) s

/-- Bitwise inclusive or (R231). -/
def orA (src : Source) (s : State) : State := logicResult src (s.a ||| sourceValue src s) s

/-- Bitwise exclusive or (R232). -/
def eorA (src : Source) (s : State) : State := logicResult src (s.a ^^^ sourceValue src s) s

/-- Shift left by one; the old bit 7 goes to `C` (R233). -/
def shiftLeft (t : Target) (s : State) : State :=
  let r := targetValue t s <<< 1
  (writeBack t s r ((s.resolve t.operand).setC ((targetValue t s).getLsbD 7))).setZN r

/-- Shift right by one; the old bit 0 goes to `C` (R234). -/
def shiftRight (t : Target) (s : State) : State :=
  let r := targetValue t s >>> 1
  (writeBack t s r ((s.resolve t.operand).setC ((targetValue t s).getLsbD 0))).setZN r

/-! AND: 43_logic_shift.md R230. -/

/-- `AND #nn`, opcode 0x29 (R230, R147). -/
def execAndImm (b : Byte) (s : State) : Outcome := .next (andA (.imm b) s)

/-- `AND nn`, opcode 0x25 (R230, R148). -/
def execAndZp (b : Byte) (s : State) : Outcome := .next (andA (.mem (.zp b)) s)

/-- `AND nn,X`, opcode 0x35 (R230, R149). -/
def execAndZpx (b : Byte) (s : State) : Outcome := .next (andA (.mem (.zpx b)) s)

/-- `AND nnnn`, opcode 0x2D (R230, R154). -/
def execAndAbs (w : Addr) (s : State) : Outcome := .next (andA (.mem (.abs w)) s)

/-- `AND nnnn,X`, opcode 0x3D (R230, R155). -/
def execAndAbsx (w : Addr) (s : State) : Outcome := .next (andA (.mem (.absx w)) s)

/-- `AND nnnn,Y`, opcode 0x39 (R230, R156). -/
def execAndAbsy (w : Addr) (s : State) : Outcome := .next (andA (.mem (.absy w)) s)

/-- `AND (nn,X)`, opcode 0x21 (R230, R152). -/
def execAndIndx (b : Byte) (s : State) : Outcome := .next (andA (.mem (.indx b)) s)

/-- `AND (nn),Y`, opcode 0x31 (R230, R153). -/
def execAndIndy (b : Byte) (s : State) : Outcome := .next (andA (.mem (.indy b)) s)

/-! ORA: 43_logic_shift.md R231. -/

/-- `ORA #nn`, opcode 0x09 (R231, R147). -/
def execOraImm (b : Byte) (s : State) : Outcome := .next (orA (.imm b) s)

/-- `ORA nn`, opcode 0x05 (R231, R148). -/
def execOraZp (b : Byte) (s : State) : Outcome := .next (orA (.mem (.zp b)) s)

/-- `ORA nn,X`, opcode 0x15 (R231, R149). -/
def execOraZpx (b : Byte) (s : State) : Outcome := .next (orA (.mem (.zpx b)) s)

/-- `ORA nnnn`, opcode 0x0D (R231, R154). -/
def execOraAbs (w : Addr) (s : State) : Outcome := .next (orA (.mem (.abs w)) s)

/-- `ORA nnnn,X`, opcode 0x1D (R231, R155). -/
def execOraAbsx (w : Addr) (s : State) : Outcome := .next (orA (.mem (.absx w)) s)

/-- `ORA nnnn,Y`, opcode 0x19 (R231, R156). -/
def execOraAbsy (w : Addr) (s : State) : Outcome := .next (orA (.mem (.absy w)) s)

/-- `ORA (nn,X)`, opcode 0x01 (R231, R152). -/
def execOraIndx (b : Byte) (s : State) : Outcome := .next (orA (.mem (.indx b)) s)

/-- `ORA (nn),Y`, opcode 0x11 (R231, R153). -/
def execOraIndy (b : Byte) (s : State) : Outcome := .next (orA (.mem (.indy b)) s)

/-! EOR: 43_logic_shift.md R232. -/

/-- `EOR #nn`, opcode 0x49 (R232, R147). -/
def execEorImm (b : Byte) (s : State) : Outcome := .next (eorA (.imm b) s)

/-- `EOR nn`, opcode 0x45 (R232, R148). -/
def execEorZp (b : Byte) (s : State) : Outcome := .next (eorA (.mem (.zp b)) s)

/-- `EOR nn,X`, opcode 0x55 (R232, R149). -/
def execEorZpx (b : Byte) (s : State) : Outcome := .next (eorA (.mem (.zpx b)) s)

/-- `EOR nnnn`, opcode 0x4D (R232, R154). -/
def execEorAbs (w : Addr) (s : State) : Outcome := .next (eorA (.mem (.abs w)) s)

/-- `EOR nnnn,X`, opcode 0x5D (R232, R155). -/
def execEorAbsx (w : Addr) (s : State) : Outcome := .next (eorA (.mem (.absx w)) s)

/-- `EOR nnnn,Y`, opcode 0x59 (R232, R156). -/
def execEorAbsy (w : Addr) (s : State) : Outcome := .next (eorA (.mem (.absy w)) s)

/-- `EOR (nn,X)`, opcode 0x41 (R232, R152). -/
def execEorIndx (b : Byte) (s : State) : Outcome := .next (eorA (.mem (.indx b)) s)

/-- `EOR (nn),Y`, opcode 0x51 (R232, R153). -/
def execEorIndy (b : Byte) (s : State) : Outcome := .next (eorA (.mem (.indy b)) s)

/-! ASL: 43_logic_shift.md R233. -/

/-- `ASL A`, opcode 0x0A (R233, R146). -/
def execAslAcc (s : State) : Outcome := .next (shiftLeft .acc s)

/-- `ASL nn`, opcode 0x06 (R233, R148). -/
def execAslZp (b : Byte) (s : State) : Outcome := .next (shiftLeft (.mem (.zp b)) s)

/-- `ASL nn,X`, opcode 0x16 (R233, R149). -/
def execAslZpx (b : Byte) (s : State) : Outcome := .next (shiftLeft (.mem (.zpx b)) s)

/-- `ASL nnnn`, opcode 0x0E (R233, R154). -/
def execAslAbs (w : Addr) (s : State) : Outcome := .next (shiftLeft (.mem (.abs w)) s)

/-- `ASL nnnn,X`, opcode 0x1E (R233, R155). -/
def execAslAbsx (w : Addr) (s : State) : Outcome := .next (shiftLeft (.mem (.absx w)) s)

/-! LSR: 43_logic_shift.md R234. -/

/-- `LSR A`, opcode 0x4A (R234, R146). -/
def execLsrAcc (s : State) : Outcome := .next (shiftRight .acc s)

/-- `LSR nn`, opcode 0x46 (R234, R148). -/
def execLsrZp (b : Byte) (s : State) : Outcome := .next (shiftRight (.mem (.zp b)) s)

/-- `LSR nn,X`, opcode 0x56 (R234, R149). -/
def execLsrZpx (b : Byte) (s : State) : Outcome := .next (shiftRight (.mem (.zpx b)) s)

/-- `LSR nnnn`, opcode 0x4E (R234, R154). -/
def execLsrAbs (w : Addr) (s : State) : Outcome := .next (shiftRight (.mem (.abs w)) s)

/-- `LSR nnnn,X`, opcode 0x5E (R234, R155). -/
def execLsrAbsx (w : Addr) (s : State) : Outcome := .next (shiftRight (.mem (.absx w)) s)

end Sys2Proof.Machine
end

