-- ==== Sys2Proof/Machine/StackTransferFlag.lean ====
section
/-! DEFINITION. Stack, register-transfer and flag instructions and NOP (45_stack_transfer_flag.md R282 to R312), all of
the implied mode, none touching `LAST`. -/

namespace Sys2Proof.Machine

open Sys2Proof

/-- Push `A` (R282). -/
def pushA (s : State) : State := (s.resolve .imp).push s.a

/-- Pull into `A` and set `Z`, `N` (R283). -/
def pullA (s : State) : State := ((s.resolve .imp).pullRest.setA s.pullByte).setZN s.pullByte

/-- Push the packed flag byte; the flags keep their values (R284). -/
def pushFlags (s : State) : State := (s.resolve .imp).push s.pack

/-- An implied instruction that puts a byte into `A` and sets `Z`, `N` (R293, R295). -/
def setAFlags (w : Byte) (s : State) : State := ((s.resolve .imp).setA w).setZN w

/-! PHA: 45_stack_transfer_flag.md R282. -/

/-- `PHA`, opcode 0x48 (R282, R145). -/
def execPha (s : State) : Outcome := .next (pushA s)

/-! PLA: 45_stack_transfer_flag.md R283. -/

/-- `PLA`, opcode 0x68 (R283, R145). -/
def execPla (s : State) : Outcome := .next (pullA s)

/-! PHP: 45_stack_transfer_flag.md R284. -/

/-- `PHP`, opcode 0x08 (R284, R145). -/
def execPhp (s : State) : Outcome := .next (pushFlags s)

/-! TAX: 45_stack_transfer_flag.md R290. -/

/-- `TAX`, opcode 0xAA (R290, R145). -/
def execTax (s : State) : Outcome := .next (setXFlags s.a s)

/-! TAY: 45_stack_transfer_flag.md R291. -/

/-- `TAY`, opcode 0xA8 (R291, R145). -/
def execTay (s : State) : Outcome := .next (setYFlags s.a s)

/-! TSX: 45_stack_transfer_flag.md R292. -/

/-- `TSX`, opcode 0xBA (R292, R145). -/
def execTsx (s : State) : Outcome := .next (setXFlags s.sp s)

/-! TXA: 45_stack_transfer_flag.md R293. -/

/-- `TXA`, opcode 0x8A (R293, R145). -/
def execTxa (s : State) : Outcome := .next (setAFlags s.x s)

/-! TXS: 45_stack_transfer_flag.md R294. -/

/-- `TXS`, opcode 0x9A (R294, R145). -/
def execTxs (s : State) : Outcome := .next ((s.resolve .imp).setSp s.x)

/-! TYA: 45_stack_transfer_flag.md R295. -/

/-- `TYA`, opcode 0x98 (R295, R145). -/
def execTya (s : State) : Outcome := .next (setAFlags s.y s)

/-! CLC: 45_stack_transfer_flag.md R300. -/

/-- `CLC`, opcode 0x18 (R300, R145). -/
def execClc (s : State) : Outcome := .next ((s.resolve .imp).setC false)

/-! SEC: 45_stack_transfer_flag.md R301. -/

/-- `SEC`, opcode 0x38 (R301, R145). -/
def execSec (s : State) : Outcome := .next ((s.resolve .imp).setC true)

/-! CLI: 45_stack_transfer_flag.md R302. -/

/-- `CLI`, opcode 0x58 (R302, R145). -/
def execCli (s : State) : Outcome := .next ((s.resolve .imp).setI false)

/-! SEI: 45_stack_transfer_flag.md R303. -/

/-- `SEI`, opcode 0x78 (R303, R145). -/
def execSei (s : State) : Outcome := .next ((s.resolve .imp).setI true)

/-! CLV: 45_stack_transfer_flag.md R304. -/

/-- `CLV`, opcode 0xB8 (R304, R145). -/
def execClv (s : State) : Outcome := .next ((s.resolve .imp).setV false)

/-! CLD: 45_stack_transfer_flag.md R305. -/

/-- `CLD`, opcode 0xD8 (R305, R145). -/
def execCld (s : State) : Outcome := .next ((s.resolve .imp).setD false)

/-! SED: 45_stack_transfer_flag.md R306. -/

/-- `SED`, opcode 0xF8 (R306, R145). -/
def execSed (s : State) : Outcome := .next ((s.resolve .imp).setD true)

/-! NOP: 45_stack_transfer_flag.md R312. -/

/-- `NOP`, opcode 0xEA (R312, R145). -/
def execNop (s : State) : Outcome := .next (s.resolve .imp)

end Sys2Proof.Machine
end

