-- ==== Sys2Proof/Machine/Fetch.lean ====
section
/-! DEFINITION. Fetching (40_step_and_addressing.md R140, R144): the opcode byte at `PC` and the operand bytes after it
at consecutive addresses mod 65536 (10_state.md R28), read from memory at every step (20_memory.md R84). Reads are
pure (R66), so reading three bytes for every instruction shows nothing that reading its own bytes does not. -/

namespace Sys2Proof.Machine

open Sys2Proof

/-- The longest instruction's bytes at `PC`. -/
def fetchBytes (s : State) : List Byte := [s.readByte s.pc, s.readByte (s.pc + 1), s.readByte (s.pc + 2)]

/-- The instruction at `PC`, or why there is none. -/
def fetchInstr (s : State) : Except DecodeError Instr :=
  match decode (fetchBytes s) with
  | .ok (i, _) => .ok i
  | .error e => .error e

/-- The state with an opcode-table word's instruction stored where the next step fetches, and running. -/
def State.placeInstr (s : State) (nbits w : Nat) : State := (s.storeBytes s.pc (tableBytes nbits w)).setRun true

end Sys2Proof.Machine
end

