-- ==== Sys2Proof/Machine/Step.lean ====
section
/-! DEFINITION. One step (40_step_and_addressing.md R140 to R142; 60_exceptions.md R341, R343): when halted, nothing;
otherwise fetch and decode, then run the instruction, or halt on a byte that is absent from the decode table. -/

namespace Sys2Proof.Machine

open Sys2Proof

def step (s : State) : Host.Outcome State Fault Refusal :=
  if s.run then
    match fetchInstr s with
    | .ok i => exec i s
    | .error _ => .next s.raiseInvalidOpcode
  else .next s.stayHalted

/-- The state with an opcode-table word's instruction where the next step fetches it (log entry 5). -/
def State.withFetchWord (s : State) (nbits w : Nat) : State := s.placeInstr nbits w

end Sys2Proof.Machine
end

