-- ==== Sys2Proof/Machine/Result.lean ====
section
/-! DEFINITION. The value `step` returns to the host (40_step_and_addressing.md R143): "an output to the host, not
state", and so a function of the state before the step (log entry 9). -/

namespace Sys2Proof.Machine

open Sys2Proof

/-- The three results of a step (R143). -/
inductive StepResult where
  | executed
  | executedAsNoop
  | invalidOpcode
  deriving DecidableEq, Repr

/-- The six mnemonics whose handler is the documented no-op (46_inert.md R320). -/
def isInert (m : Mnemonic) : Bool := [Mnemonic.brk, .plp, .rol, .ror, .rti, .bit].contains m

/-- The result of running an instruction (R142); NOP is `Executed` (45_stack_transfer_flag.md R312). -/
def instrResult (i : Instr) : StepResult := if isInert i.mnemonic then .executedAsNoop else .executed

/-- The result of a step from a state: `InvalidOpcode` for an absent opcode byte and for a halted machine (R143;
60_exceptions.md R343). -/
def stepResult (s : State) : StepResult :=
  if s.run then
    match fetchInstr s with
    | .ok i => instrResult i
    | .error _ => .invalidOpcode
  else .invalidOpcode

end Sys2Proof.Machine
end

