-- ==== Sys2Proof/Machine/External.lean ====
section
/-! DEFINITION. The host's entry points (60_exceptions.md R370) other than `reset`, which is `State.hostReset`: power-up
and image load, the button, the observations; and the host's calls together, one at a time between steps (20_memory.md
R81). -/

namespace Sys2Proof.Machine

open Sys2Proof

/-- The code-load origin (20_memory.md R70). -/
def codeOrigin : Addr := 0x8000

/-- How many image bytes fit from the origin to 0xFFFF (70_reset_and_hazards.md R392). -/
def imageSpace : Nat := 0x8000

/-- What `init()` leaves: every byte 0x00 and `LAST` none (R390), before the processor state is set. -/
def State.initialised : State := (State.reset.setMem []).setLast none

/-- The launch state of an image: `init`, then the image's first 32768 bytes at 0x8000, then reset (R392, R393). -/
def State.launch (image : List Byte) : State :=
  (State.initialised.storeBytes codeOrigin (image.take imageSpace)).hostReset

/-- Why no machine comes into being: the image is missing or unreadable (60_exceptions.md R356). -/
inductive LoadError where
  | ioError
  deriving DecidableEq, Repr

/-- `loadImage(bytes) -> {Ok | IoError}`, with none for an image the host cannot read: "engine never starts executing", so
there is no state (60_exceptions.md R356; log entry 14). -/
def loadImage (image : Option (List Byte)) : Except LoadError State :=
  match image with
  | some bytes => .ok (State.launch bytes)
  | none => .error .ioError

/-- The mask of the button's bit in its port byte (60_exceptions.md R365). -/
def buttonMask (g : Config.GpioBinding) : Byte := (1 : Byte) <<< g.buttonBit.val

/-- `setButtonPin(pressed)`: sets or clears the button's port bit, only when its direction bit marks an input; it does not
look at `RUN` (R365). -/
def State.setButtonPin (g : Config.GpioBinding) (pressed : Bool) (s : State) : State :=
  if (s.readByte g.buttonDdr).getLsbD g.buttonBit.val then s
  else
    let old := s.readByte g.buttonPort
    s.writeByte g.buttonPort (if pressed then old ||| buttonMask g else old &&& ~~~ buttonMask g)

/-- What `snapshot()` returns: the processor state (R371). -/
structure Snapshot where
  a : Byte
  x : Byte
  y : Byte
  sp : Byte
  pc : Addr
  n : Bool
  v : Bool
  b : Bool
  d : Bool
  i : Bool
  z : Bool
  c : Bool
  run : Bool
  deriving DecidableEq, Repr

/-- `snapshot()` (R371). -/
def State.snapshot (s : State) : Snapshot where
  a := s.a
  x := s.x
  y := s.y
  sp := s.sp
  pc := s.pc
  n := s.n
  v := s.v
  b := s.b
  d := s.d
  i := s.i
  z := s.z
  c := s.c
  run := s.run

/-- `readMemoryRange(start, len)`: the bytes `M[start]` to `M[start + len - 1]`; none past the end of memory, which the
spec leaves to the host (R371; 91_not_in_source.md N21; log entry 12). -/
def State.readMemoryRange (s : State) (start : Addr) (len : Nat) : Option (List Byte) :=
  if start.toNat + len ≤ 65536 then
    some ((List.range len).map fun k => s.readByte (start + BitVec.ofNat 16 k))
  else none

/-- `lastAccessedAddress()` (R370). -/
def State.lastAccessedAddress (s : State) : Option Addr := s.last

/-- `isHalted()` (R370). -/
def State.isHalted (s : State) : Bool := !s.run

/-- The host's state-changing calls on a live machine (R370); the image load happened before the first. -/
inductive HostAction where
  | step
  | reset
  | setButtonPin (pressed : Bool)
  deriving DecidableEq, Repr

/-- What one call of the host does (R344, R370). -/
def State.act (g : Config.GpioBinding) (s : State) (h : HostAction) : Outcome :=
  match h with
  | .step => Sys2Proof.Machine.step s
  | .reset => .next s.hostReset
  | .setButtonPin pressed => .next (s.setButtonPin g pressed)

end Sys2Proof.Machine
end

