-- ==== Sys2Proof/Safety.lean ====
section
/-! DEFINITION. What counts as a good state and a safe step, and the classes of instructions the claims are stated in:
what an instruction may write, by the spec's tables (10_state.md R27, R39; 20_memory.md R68; 40_step_and_addressing.md
R160). -/

namespace Sys2Proof.Machine

open Sys2Proof

/-- The invariant of every reachable state: memory in canonical form, `B` clear because nothing sets it (10_state.md
R32), and never `Z` and `N` together (45_stack_transfer_flag.md R284). -/
abbrev State.Inv (s : State) : Prop := s.mem.wf = true ∧ s.b = false ∧ (s.n && s.z) = false

/-- A safe step: it answers a next state, no fault and no refusal. -/
def SafeStep (s : State) : Prop := ∃ t, step s = .next t

/-- The flag condition of each branch mnemonic (44_control.md R251 to R258); false for what is no branch. -/
def branchTaken (m : Mnemonic) (s : State) : Bool :=
  (m == .bcc && !s.c) || (m == .bcs && s.c) || (m == .beq && s.z) || (m == .bne && !s.z)
    || (m == .bmi && s.n) || (m == .bpl && !s.n) || (m == .bvc && !s.v) || (m == .bvs && s.v)

/-- The eight branches (44_control.md R250). -/
def isBranch (m : Mnemonic) : Bool := [Mnemonic.bcc, .bcs, .beq, .bne, .bmi, .bpl, .bvc, .bvs].contains m

/-- The instructions that leave `LAST` none (40_step_and_addressing.md R160). -/
def isControlTransfer (m : Mnemonic) : Bool := isBranch m || [Mnemonic.jmp, .jsr, .rts].contains m

/-- A byte stored at a memory operand, as a function of the byte that stood there; nothing for any other operand. -/
def storedAt (o : Operand) (s : State) (f : Byte → Byte) : List (Addr × Byte) :=
  match o with
  | .mem m => [(memAddr m s, f (s.readByte (memAddr m s)))]
  | .imp => []
  | .acc => []
  | .imm _ => []
  | .ind _ => []
  | .rel _ => []

/-- The bytes an instruction stores, each with its address, from the state it starts in (the writes of 20_memory.md
R68; 41_load_store.md R183 to R185; 42_arithmetic.md R207, R208; 43_logic_shift.md R233, R234; 44_control.md R260;
45_stack_transfer_flag.md R282, R284). -/
def storedBytes (i : Instr) (s : State) : List (Addr × Byte) :=
  match i.mnemonic with
  | .sta => storedAt i.operand s fun _ => s.a
  | .stx => storedAt i.operand s fun _ => s.x
  | .sty => storedAt i.operand s fun _ => s.y
  | .inc => storedAt i.operand s fun w => w + 1
  | .dec => storedAt i.operand s fun w => w - 1
  | .asl => storedAt i.operand s fun w => w <<< 1
  | .lsr => storedAt i.operand s fun w => w >>> 1
  | .pha => [(stackAddr s.sp, s.a)]
  | .php => [(stackAddr s.sp, s.pack)]
  | .jsr => [(stackAddr s.sp, hiByte (s.pc + 3)), (stackAddr (s.sp - 1), loByte (s.pc + 3))]
  | .lda | .ldx | .ldy | .adc | .sbc | .cmp | .cpx | .cpy | .inx | .iny | .dex | .dey | .and | .ora | .eor => []
  | .bcc | .bcs | .beq | .bne | .bmi | .bpl | .bvc | .bvs | .jmp | .rts | .pla => []
  | .tax | .tay | .tsx | .txa | .txs | .tya | .clc | .sec | .cli | .sei | .clv | .cld | .sed | .nop => []
  | .brk | .plp | .rol | .ror | .rti | .bit => []

/-- The addresses an instruction stores to, from the state it starts in (20_memory.md R68). -/
def storeAddrs (i : Instr) (s : State) : List Addr := (storedBytes i s).map Prod.fst

/-- The instructions that may write `A`: those of 10_state.md R27, the shifts only in accumulator mode. -/
def writesA (i : Instr) : Bool :=
  [Mnemonic.lda, .adc, .sbc, .and, .ora, .eor, .pla, .txa, .tya].contains i.mnemonic
    || ([Mnemonic.asl, .lsr].contains i.mnemonic && i.operand == .acc)

/-- The instructions that may write `X` (10_state.md R27). -/
def writesX (i : Instr) : Bool := [Mnemonic.ldx, .inx, .dex, .tax, .tsx].contains i.mnemonic

/-- The instructions that may write `Y` (10_state.md R27). -/
def writesY (i : Instr) : Bool := [Mnemonic.ldy, .iny, .dey, .tay].contains i.mnemonic

/-- The instructions that may write `SP` (10_state.md R27). -/
def writesSp (i : Instr) : Bool := [Mnemonic.txs, .pha, .php, .pla, .jsr, .rts].contains i.mnemonic

/-- The instructions that may write `C` (10_state.md R39). -/
def writesC (i : Instr) : Bool :=
  [Mnemonic.adc, .sbc, .cmp, .cpx, .cpy, .asl, .lsr, .clc, .sec].contains i.mnemonic

/-- The instructions that may write `V` (10_state.md R39). -/
def writesV (i : Instr) : Bool := [Mnemonic.adc, .sbc, .clv].contains i.mnemonic

/-- The byte that `SetZN` is applied to, read off the states before and after an instruction; none for the instructions
it is not applied to (10_state.md R38). -/
def zeroNegativeByte (i : Instr) (s t : State) : Option Byte :=
  if [Mnemonic.lda, .adc, .sbc, .and, .ora, .eor, .pla, .txa, .tya].contains i.mnemonic then some t.a
  else if [Mnemonic.ldx, .inx, .dex, .tax, .tsx].contains i.mnemonic then some t.x
  else if [Mnemonic.ldy, .iny, .dey, .tay].contains i.mnemonic then some t.y
  else if [Mnemonic.asl, .lsr, .inc, .dec].contains i.mnemonic then
    match i.operand with
    | .mem m => some (t.readByte (memAddr m s))
    | _ => some t.a
  else if i.mnemonic = .cmp then (operandValue i.operand s).map fun w => s.a - w
  else if i.mnemonic = .cpx then (operandValue i.operand s).map fun w => s.x - w
  else if i.mnemonic = .cpy then (operandValue i.operand s).map fun w => s.y - w
  else none

/-- What `LAST` holds after an instruction (40_step_and_addressing.md R160). -/
def lastAfter (i : Instr) (s : State) : Option Addr :=
  if isControlTransfer i.mnemonic then none
  else
    match effAddr i.operand s with
    | some ea => some ea
    | none => s.last

end Sys2Proof.Machine
end

