-- ==== Sys2Proof/Certificates/Slice0/Obligations.lean ====
section
/-! DEFINITION. The statements for the provers. Each says which rule or section of the spec it formalises; where a
clause rests on a decision of the spec (92_eei_decisions.md) or on a choice of the model (notes/assumptions), it says
so. The state before an instruction is the one its step starts in: `pc` is the address of its opcode byte. -/

open Sys2Proof Sys2Proof.Machine

/-- The table of 30_encoding.md R111 as it stands there: each mnemonic's modes and opcode bytes. -/
def Sys2Proof.Machine.specRows : Mnemonic → List (Mode × Byte)
  | .lda => [(.imm, 0xA9), (.zp, 0xA5), (.zpx, 0xB5), (.abs, 0xAD), (.absx, 0xBD), (.absy, 0xB9), (.indx, 0xA1), (.indy, 0xB1)]
  | .ldx => [(.imm, 0xA2), (.zp, 0xA6), (.zpy, 0xB6), (.abs, 0xAE), (.absy, 0xBE)]
  | .ldy => [(.imm, 0xA0), (.zp, 0xA4), (.zpx, 0xB4), (.abs, 0xAC), (.absx, 0xBC)]
  | .sta => [(.zp, 0x85), (.zpx, 0x95), (.abs, 0x8D), (.absx, 0x9D), (.absy, 0x99), (.indx, 0x81), (.indy, 0x91)]
  | .stx => [(.zp, 0x86), (.zpy, 0x96), (.abs, 0x8E)]
  | .sty => [(.zp, 0x84), (.zpx, 0x94), (.abs, 0x8C)]
  | .adc => [(.imm, 0x69), (.zp, 0x65), (.zpx, 0x75), (.abs, 0x6D), (.absx, 0x7D), (.absy, 0x79), (.indx, 0x61), (.indy, 0x71)]
  | .sbc => [(.imm, 0xE9), (.zp, 0xE5), (.zpx, 0xF5), (.abs, 0xED), (.absx, 0xFD), (.absy, 0xF9), (.indx, 0xE1), (.indy, 0xF1)]
  | .cmp => [(.imm, 0xC9), (.zp, 0xC5), (.zpx, 0xD5), (.abs, 0xCD), (.absx, 0xDD), (.absy, 0xD9), (.indx, 0xC1), (.indy, 0xD1)]
  | .cpx => [(.imm, 0xE0), (.zp, 0xE4), (.abs, 0xEC)]
  | .cpy => [(.imm, 0xC0), (.zp, 0xC4), (.abs, 0xCC)]
  | .inc => [(.zp, 0xE6), (.zpx, 0xF6), (.abs, 0xEE), (.absx, 0xFE)]
  | .dec => [(.zp, 0xC6), (.zpx, 0xD6), (.abs, 0xCE), (.absx, 0xDE)]
  | .inx => [(.imp, 0xE8)]
  | .iny => [(.imp, 0xC8)]
  | .dex => [(.imp, 0xCA)]
  | .dey => [(.imp, 0x88)]
  | .and => [(.imm, 0x29), (.zp, 0x25), (.zpx, 0x35), (.abs, 0x2D), (.absx, 0x3D), (.absy, 0x39), (.indx, 0x21), (.indy, 0x31)]
  | .ora => [(.imm, 0x09), (.zp, 0x05), (.zpx, 0x15), (.abs, 0x0D), (.absx, 0x1D), (.absy, 0x19), (.indx, 0x01), (.indy, 0x11)]
  | .eor => [(.imm, 0x49), (.zp, 0x45), (.zpx, 0x55), (.abs, 0x4D), (.absx, 0x5D), (.absy, 0x59), (.indx, 0x41), (.indy, 0x51)]
  | .asl => [(.acc, 0x0A), (.zp, 0x06), (.zpx, 0x16), (.abs, 0x0E), (.absx, 0x1E)]
  | .lsr => [(.acc, 0x4A), (.zp, 0x46), (.zpx, 0x56), (.abs, 0x4E), (.absx, 0x5E)]
  | .bcc => [(.rel, 0x90)]
  | .bcs => [(.rel, 0xB0)]
  | .beq => [(.rel, 0xF0)]
  | .bne => [(.rel, 0xD0)]
  | .bmi => [(.rel, 0x30)]
  | .bpl => [(.rel, 0x10)]
  | .bvc => [(.rel, 0x50)]
  | .bvs => [(.rel, 0x70)]
  | .jmp => [(.abs, 0x4C), (.ind, 0x6C)]
  | .jsr => [(.abs, 0x20)]
  | .rts => [(.imp, 0x60)]
  | .pha => [(.imp, 0x48)]
  | .pla => [(.imp, 0x68)]
  | .php => [(.imp, 0x08)]
  | .tax => [(.imp, 0xAA)]
  | .tay => [(.imp, 0xA8)]
  | .tsx => [(.imp, 0xBA)]
  | .txa => [(.imp, 0x8A)]
  | .txs => [(.imp, 0x9A)]
  | .tya => [(.imp, 0x98)]
  | .clc => [(.imp, 0x18)]
  | .sec => [(.imp, 0x38)]
  | .cli => [(.imp, 0x58)]
  | .sei => [(.imp, 0x78)]
  | .clv => [(.imp, 0xB8)]
  | .cld => [(.imp, 0xD8)]
  | .sed => [(.imp, 0xF8)]
  | .nop => [(.imp, 0xEA)]
  | .brk => [(.imp, 0x00)]
  | .plp => [(.imp, 0x28)]
  | .rol => [(.acc, 0x2A), (.zp, 0x26), (.zpx, 0x36), (.abs, 0x2E), (.absx, 0x3E)]
  | .ror => [(.acc, 0x6A), (.zp, 0x66), (.zpx, 0x76), (.abs, 0x6E), (.absx, 0x7E)]
  | .rti => [(.imp, 0x40)]
  | .bit => [(.zp, 0x24), (.abs, 0x2C)]

/-- The 105 illegal opcode bytes as 30_encoding.md R115 lists them. -/
def Sys2Proof.Machine.illegalBytes : List Byte :=
  [0x02, 0x03, 0x04, 0x07, 0x0B, 0x0C, 0x0F, 0x12, 0x13, 0x14, 0x17, 0x1A, 0x1B, 0x1C, 0x1F,
   0x22, 0x23, 0x27, 0x2B, 0x2F, 0x32, 0x33, 0x34, 0x37, 0x3A, 0x3B, 0x3C, 0x3F, 0x42, 0x43,
   0x44, 0x47, 0x4B, 0x4F, 0x52, 0x53, 0x54, 0x57, 0x5A, 0x5B, 0x5C, 0x5F, 0x62, 0x63, 0x64,
   0x67, 0x6B, 0x6F, 0x72, 0x73, 0x74, 0x77, 0x7A, 0x7B, 0x7C, 0x7F, 0x80, 0x82, 0x83, 0x87,
   0x89, 0x8B, 0x8F, 0x92, 0x93, 0x97, 0x9B, 0x9C, 0x9E, 0x9F, 0xA3, 0xA7, 0xAB, 0xAF, 0xB2,
   0xB3, 0xB7, 0xBB, 0xBF, 0xC2, 0xC3, 0xC7, 0xCB, 0xCF, 0xD2, 0xD3, 0xD4, 0xD7, 0xDA, 0xDB,
   0xDC, 0xDF, 0xE2, 0xE3, 0xE7, 0xEB, 0xEF, 0xF2, 0xF3, 0xF4, 0xF7, 0xFA, 0xFB, 0xFC, 0xFF]

/-- The second description of the illegal bytes in 30_encoding.md R115, by low nibble and by listing. -/
def Sys2Proof.Machine.illegalByNibble (op : Byte) : Bool :=
  ([3, 7, 11, 15].contains (op.toNat % 16)) || (op.toNat % 16 == 2 && op != 0xA2)
    || [0x04, 0x0C, 0x14, 0x1C, 0x34, 0x3C, 0x44, 0x54, 0x5C, 0x64, 0x74, 0x7C, 0x80, 0x9C, 0xD4, 0xDC, 0xF4, 0xFC].contains op
    || [0x1A, 0x3A, 0x5A, 0x7A, 0xDA, 0xFA].contains op || [0x89, 0x9E].contains op

/-- The formats of 30_encoding.md R100, R102, R103 lose no bit: decoding the bytes of any instruction gives it back with the bytes that follow. The opcode values are decision D1 of the spec. -/
def Obligations.DecodeEncodeRoundTrip : Prop :=
  ∀ (i : Instr) (rest : List Byte), decode (encode i ++ rest) = .ok (i, rest)

/-- The other direction: each byte string has one meaning (30_encoding.md R100, R104), and the decoder yields only filled cells of R111 (40_step_and_addressing.md R164). -/
def Obligations.DecodedBytesAreTheEncoding : Prop :=
  ∀ (bytes rest : List Byte) (i : Instr), decode bytes = .ok (i, rest) →
    bytes = encode i ++ rest ∧ i.wellFormed = true ∧ (encode i).length = i.length ∧ 1 ≤ i.length ∧ i.length ≤ 3

/-- The decode table by mnemonic (30_encoding.md section 3). The opcode values are decision D1 of the spec, from general knowledge. -/
def Obligations.OpcodeRowsAreTheSpecsTable : Prop :=
  (∀ i : Instr, (i.operand.mode, i.opcode) ∈ specRows i.mnemonic) ∧
  (∀ (m : Mnemonic) (md : Mode) (op b1 b2 : Byte), (md, op) ∈ specRows m →
    ∃ i rest, decode [op, b1, b2] = .ok (i, rest) ∧ i.mnemonic = m ∧ i.operand.mode = md ∧ i.opcode = op)

/-- The illegal encodings of 30_encoding.md section 4, in both of its descriptions. Which bytes are absent follows from decision D1 of the spec. -/
def Obligations.IllegalBytesAreTheSpecsList : Prop :=
  (∀ (op : Byte) (rest : List Byte), decode (op :: rest) = .error (.invalidOpcode op) ↔ op ∈ illegalBytes) ∧
  (∀ op : Byte, op ∈ illegalBytes ↔ illegalByNibble op = true) ∧ illegalBytes.length = 105

/-- Words written out from the examples of 30_encoding.md section 5 and 95_test_vectors.md; the opcode values are decision D1 of the spec. -/
def Obligations.SpecWordsDecode : Prop :=
  decode [0xE8] = .ok (.inx, []) ∧ decode [0x0A] = .ok (.aslAcc, []) ∧
  decode [0xA9, 0x10] = .ok (.ldaImm 0x10, []) ∧ decode [0xA5, 0x10] = .ok (.ldaZp 0x10, []) ∧
  decode [0xB5, 0x10] = .ok (.ldaZpx 0x10, []) ∧ decode [0xB6, 0x10] = .ok (.ldxZpy 0x10, []) ∧
  decode [0xAD, 0x34, 0x12] = .ok (.ldaAbs 0x1234, []) ∧ decode [0xBD, 0x34, 0x12] = .ok (.ldaAbsx 0x1234, []) ∧
  decode [0xB9, 0x34, 0x12] = .ok (.ldaAbsy 0x1234, []) ∧ decode [0x6C, 0x34, 0x12] = .ok (.jmpInd 0x1234, []) ∧
  decode [0xA1, 0x10] = .ok (.ldaIndx 0x10, []) ∧ decode [0xB1, 0x10] = .ok (.ldaIndy 0x10, []) ∧
  decode [0xD0, 0xF9] = .ok (.bne 0xF9, []) ∧ decode [0x20, 0x00, 0x90] = .ok (.jsr 0x9000, []) ∧
  decode [0x75, 0x10] = .ok (.adcZpx 0x10, []) ∧ decode [0x36, 0x10] = .ok (.rolZpx 0x10, []) ∧
  decode [0x08] = .ok (.php, []) ∧ decode [0x00, 0xEA] = .ok (.brk, [0xEA]) ∧
  decode [0x1A] = .error (.invalidOpcode 0x1A) ∧ decode [0x02] = .error (.invalidOpcode 0x02)

/-- Fetch and dispatch (40_step_and_addressing.md R140, R142). Nothing stands around exec: the advance of `PC` is part of each meaning (log entry 1). NOP's result is decision D3 of the spec. -/
def Obligations.StepRunsTheDecodedInstruction : Prop :=
  ∀ (s : State) (i : Instr) (rest : List Byte), s.run = true → i.wellFormed = true →
    decode [s.readByte s.pc, s.readByte (s.pc + 1), s.readByte (s.pc + 2)] = .ok (i, rest) →
    step s = exec i s ∧
    stepResult s = (if i.mnemonic ∈ [Mnemonic.brk, .plp, .rol, .ror, .rti, .bit] then .executedAsNoop else .executed)

/-- The invalid-opcode halt (40_step_and_addressing.md R141; 60_exceptions.md R341). Which bytes are absent is IllegalBytesAreTheSpecsList. -/
def Obligations.InvalidOpcodeHalts : Prop :=
  (∀ s : State, s.run = true → opcodeForm (s.readByte s.pc) = none →
    step s = .next { s with pc := s.pc + 1, run := false } ∧ stepResult s = .invalidOpcode) ∧
  (∀ (i : Instr) (s t : State), exec i s = .next t → t.run = s.run ∧ instrResult i ≠ .invalidOpcode) ∧
  (∀ s : State, s.run = true → opcodeForm (s.readByte s.pc) ≠ none → stepResult s ≠ .invalidOpcode) ∧
  (∀ s : State, s.run = false → step s = .next s) ∧ (∀ s : State, s.hostReset.run = true)

/-- A step while halted (60_exceptions.md section 2); its result value is decision D12 of the spec. -/
def Obligations.HaltedStepChangesNothing : Prop :=
  ∀ s : State, s.run = false → step s = .next s ∧ stepResult s = .invalidOpcode

/-- The complete run/halt state machine of 60_exceptions.md R344. Which bytes are valid opcodes is IllegalBytesAreTheSpecsList. -/
def Obligations.RunHaltStateMachine : Prop :=
  (∀ s t : State, step s = .next t → (t.run = true ↔ s.run = true ∧ opcodeForm (s.readByte s.pc) ≠ none)) ∧
  (∀ s : State, s.hostReset = { a := 0, x := 0, y := 0, sp := 0, pc := s.readWord 0xFFFC, n := false, v := false, b := false, d := false, i := false, z := false, c := false, run := true, last := s.hostReset.last, mem := s.mem }) ∧
  (∀ (g : Config.GpioBinding) (p : Bool) (s : State), (s.setButtonPin g p).run = s.run)

/-- "every step is a total deterministic function of the state" (93_implementation_defined.md section 1). -/
def Obligations.EveryStepAnswersANextState : Prop :=
  (∀ s : State, SafeStep s) ∧ (∀ (g : Config.GpioBinding) (s : State) (h : HostAction), ∃ t, s.act g h = .next t)

/-- The three results (40_step_and_addressing.md section 1) and the classes of bytes (30_encoding.md section 4); inertness, NOP and the halted result are decisions D2, D3, D12 of the spec. -/
def Obligations.StepResultClassifiesTheOpcode : Prop :=
  (∀ s : State, stepResult s = .invalidOpcode ↔ s.run = false ∨ s.readByte s.pc ∈ illegalBytes) ∧
  (∀ s : State, stepResult s = .executedAsNoop ↔ s.run = true ∧
    s.readByte s.pc ∈ ([0x00, 0x28, 0x40, 0x24, 0x2C, 0x2A, 0x26, 0x36, 0x2E, 0x3E, 0x6A, 0x66, 0x76, 0x6E, 0x7E] : List Byte)) ∧
  (∀ s t : State, s.run = true → step s = .next t → (stepResult s = .invalidOpcode ↔ t.run = false))

/-- The PC advance law (10_state.md R26). When a branch is taken (`branchTaken`) is decision D15 of the spec, the operand byte counts D21. -/
def Obligations.PcAdvanceLaw : Prop :=
  ∀ s t : State, step s = .next t →
    (∀ i : Instr, s.run = true → fetchInstr s = .ok i → i.mnemonic ∉ [Mnemonic.jmp, .jsr, .rts] →
      branchTaken i.mnemonic s = false → t.pc = s.pc + 1 + BitVec.ofNat 16 i.operand.mode.count) ∧
    (s.run = true → opcodeForm (s.readByte s.pc) = none → t.pc = s.pc + 1 ∧ t.run = false) ∧
    (s.run = false → t.pc = s.pc)

/-- The LAST policy (40_step_and_addressing.md section 3), decision D11 of the spec. -/
def Obligations.LastFollowsThePolicy : Prop :=
  (∀ (i : Instr) (s t : State), exec i s = .next t →
    (isControlTransfer i.mnemonic = true → t.last = none) ∧
    (isControlTransfer i.mnemonic = false → ∀ ea, effAddr i.operand s = some ea → t.last = some ea) ∧
    (isControlTransfer i.mnemonic = false → effAddr i.operand s = none → t.last = s.last)) ∧
  (∀ s t : State, s.run = false ∨ s.readByte s.pc ∈ illegalBytes → step s = .next t → t.last = s.last) ∧
  (∀ s : State, s.hostReset.last = s.last) ∧
  (∀ (g : Config.GpioBinding) (p : Bool) (s : State), (s.setButtonPin g p).last = s.last)

/-- No instruction reads LAST (10_state.md section 6), so it can never influence a register, flag, RUN or memory byte. -/
def Obligations.LastIsNeverRead : Prop :=
  ∀ (s t : State) (l : Option Addr), step s = .next t →
    ∃ l', step { s with last := l } = .next { t with last := l' } ∧ stepResult { s with last := l } = stepResult s

/-- No instruction sets B (10_state.md section 4), Z and N are never 1 together (45_stack_transfer_flag.md section 2), and no write leaves the 65536-byte array or the canonical form of the memory list (a convention of the model, log entry 3). -/
def Obligations.StepKeepsTheInvariant : Prop :=
  ∀ s t : State, s.Inv → step s = .next t → t.Inv

/-- The host's state-changing calls (60_exceptions.md section 10) beside the step. -/
def Obligations.HostCallsKeepTheInvariant : Prop :=
  (∀ (g : Config.GpioBinding) (s t : State) (h : HostAction), h ≠ .step → s.Inv → s.act g h = .next t → t.Inv) ∧
  (∀ image : List Byte, (State.launch image).Inv)

/-- The state after reset meets the invariant (10_state.md R50). -/
def Obligations.ResetStateMeetsTheInvariant : Prop :=
  State.reset.Inv

/-- Reset with nothing loaded (10_state.md R50; 70_reset_and_hazards.md R390; 95_test_vectors.md H1). That State.reset is the launch state of the empty image is the model's convention (log entry 4). -/
def Obligations.ResetStateIsTheLaunchState : Prop :=
  State.reset = { a := 0, x := 0, y := 0, sp := 0, pc := State.reset.readWord 0xFFFC, n := false, v := false, b := false, d := false, i := false, z := false, c := false, run := true, last := none, mem := [] } ∧
  State.reset.pc = 0x0000 ∧ (∀ a : Addr, State.reset.readByte a = 0x00) ∧ State.launch [] = State.reset ∧
  step State.reset = .next { State.reset with pc := 0x0001 } ∧ stepResult State.reset = .executedAsNoop

/-- The reset law (10_state.md R50) and the same values at power-up, where M is all zero except the loaded image; the image's place and truncation are 70_reset_and_hazards.md R392. -/
def Obligations.ResetLawAndPowerUp : Prop :=
  (∀ s : State, s.hostReset = { a := 0, x := 0, y := 0, sp := 0, pc := s.readWord 0xFFFC, n := false, v := false, b := false, d := false, i := false, z := false, c := false, run := true, last := s.last, mem := s.mem }) ∧
  (∀ image : List Byte,
    State.launch image = { a := 0, x := 0, y := 0, sp := 0, pc := (State.launch image).readWord 0xFFFC, n := false, v := false, b := false, d := false, i := false, z := false, c := false, run := true, last := none, mem := (State.launch image).mem } ∧
    ∀ a : Addr, (State.launch image).readByte a = if a.toNat < 0x8000 then 0x00 else image.getD (a.toNat - 0x8000) 0x00)

/-- Byte order (20_memory.md R63); where the second byte is at a page end or at 0xFFFF is decision D10 of the spec. -/
def Obligations.WordReadIsLittleEndian : Prop :=
  ∀ (s : State) (a : Addr),
    (s.readWord a).toNat = (s.readByte a).toNat + 256 * (s.mem.read ((a.toNat + 1) % 65536)).toNat ∧
    loByte (s.readWord a) = s.readByte a ∧ hiByte (s.readWord a) = s.readByte (a + 1) ∧
    (a = 0xFFFF → hiByte (s.readWord a) = s.readByte 0x0000) ∧ (a = 0x00FF → hiByte (s.readWord a) = s.readByte 0x0100)

/-- Writes (20_memory.md R67): one byte each, every address writable, no write ignored, no side effect. -/
def Obligations.WriteReplacesOneByte : Prop :=
  ∀ (s : State) (a : Addr) (w : Byte),
    (s.writeByte a w).readByte a = w ∧ (∀ k : Addr, k ≠ a → (s.writeByte a w).readByte k = s.readByte k) ∧
    s.writeByte a w = { s with mem := (s.writeByte a w).mem } ∧
    (∀ k : Addr, (s.writeByte a (s.readByte a)).readByte k = s.readByte k)

/-- The frame of memory. The addresses stored to (`storeAddrs`) are computed by the functions the meanings use, on the state the instruction starts in (20_memory.md section 4). -/
def Obligations.MemoryFrame : Prop :=
  ∀ (i : Instr) (s t : State) (a : Addr), exec i s = .next t → a ∉ storeAddrs i s → t.readByte a = s.readByte a

/-- Self-modifying code (20_memory.md section 8): a store is seen by the very next fetch, and an instruction that stores into its own bytes is unaffected in its own step. What `step` does with the bytes fetched is StepRunsTheDecodedInstruction. -/
def Obligations.StoreIsSeenByTheNextFetch : Prop :=
  ∀ (s t : State) (i : Instr), s.run = true → fetchInstr s = .ok i → step s = .next t →
    exec i s = .next t ∧
    (∀ (a : Addr) (w : Byte), (a, w) ∈ storedBytes i s → t.readByte a = w) ∧
    (∀ (k : Nat) (w : Byte), k < 3 → (t.pc + BitVec.ofNat 16 k, w) ∈ storedBytes i s → (fetchBytes t)[k]? = some w) ∧
    (∀ k : Nat, k < 3 → t.pc + BitVec.ofNat 16 k ∉ storeAddrs i s →
      (fetchBytes t)[k]? = some (s.readByte (t.pc + BitVec.ofNat 16 k)))

/-- Operand(mode, ea) (40_step_and_addressing.md R161). The immediate value is a field of the instruction; this says it is the byte at its effective address (log entry 2). How often that byte is read cannot be seen and is not said. -/
def Obligations.OperandIsTheByteAtItsAddress : Prop :=
  ∀ (s : State) (i : Instr), fetchInstr s = .ok i →
    (i.operand.mode = .acc → operandValue i.operand s = some s.a) ∧
    (i.operand.mode ∉ [Mode.acc, .imp, .rel, .ind] →
      ∃ ea, effAddr i.operand s = some ea ∧ operandValue i.operand s = some (s.readByte ea)) ∧
    (i.operand.mode ∈ [Mode.imp, .rel, .ind] → operandValue i.operand s = none)

/-- The resolver's formulas (40_step_and_addressing.md section 2). The word read at a page end and the immediate address are decisions D10, D29 of the spec. -/
def Obligations.EffectiveAddressArithmetic : Prop :=
  ∀ (s : State) (b : Byte) (w : Addr),
    (memAddr (.zp b) s).toNat = b.toNat ∧
    (memAddr (.zpx b) s).toNat = (b.toNat + s.x.toNat) % 256 ∧
    (memAddr (.zpy b) s).toNat = (b.toNat + s.y.toNat) % 256 ∧
    memAddr (.abs w) s = w ∧
    (memAddr (.absx w) s).toNat = (w.toNat + s.x.toNat) % 65536 ∧
    (memAddr (.absy w) s).toNat = (w.toNat + s.y.toNat) % 65536 ∧
    (∀ p : Addr, p.toNat = (b.toNat + s.x.toNat) % 256 → memAddr (.indx b) s = s.readWord p) ∧
    (∀ p : Addr, p.toNat = b.toNat → (memAddr (.indy b) s).toNat = ((s.readWord p).toNat + s.y.toNat) % 65536) ∧
    effAddr (.ind w) s = some (s.readWord w) ∧
    (effAddr (.imm b) s).map BitVec.toNat = some ((s.pc.toNat + 1) % 65536) ∧
    effAddr .imp s = none ∧ effAddr .acc s = none ∧ effAddr (.rel b) s = none

/-- SetZN and the instructions it is applied to (10_state.md R38), through `zeroNegativeByte`. That PLA is one of them is decision D9 of the spec; for the loads, the logical instructions and the increments it is D14. -/
def Obligations.ZeroNegativeRule : Prop :=
  ∀ (i : Instr) (s t : State), exec i s = .next t →
    (∀ w, zeroNegativeByte i s t = some w → (t.z = true ↔ w = 0x00) ∧ t.n = w.getLsbD 7) ∧
    (zeroNegativeByte i s t = none → t.z = s.z ∧ t.n = s.n)

/-- The blank and forced cells of the table of flag writers (10_state.md section 4); Z and N are in ZeroNegativeRule. V's writers are decision D5 of the spec, the flag instructions D14. -/
def Obligations.FlagFrame : Prop :=
  ∀ (i : Instr) (s t : State), exec i s = .next t →
    t.b = s.b ∧ (writesV i = false → t.v = s.v) ∧ (writesC i = false → t.c = s.c) ∧
    (i.mnemonic ∉ [Mnemonic.cld, .sed] → t.d = s.d) ∧ (i.mnemonic ∉ [Mnemonic.cli, .sei] → t.i = s.i) ∧
    (i.mnemonic = .clv → t.v = false) ∧ (i.mnemonic = .clc → t.c = false) ∧ (i.mnemonic = .sec → t.c = true) ∧
    (i.mnemonic = .cld → t.d = false) ∧ (i.mnemonic = .sed → t.d = true) ∧
    (i.mnemonic = .cli → t.i = false) ∧ (i.mnemonic = .sei → t.i = true) ∧ (i.mnemonic = .lsr → t.n = false)

/-- The writes of the register access summary (10_state.md section 2). -/
def Obligations.RegisterFrame : Prop :=
  ∀ (i : Instr) (s t : State), exec i s = .next t →
    (writesA i = false → t.a = s.a) ∧ (writesX i = false → t.x = s.x) ∧ (writesY i = false → t.y = s.y) ∧
    (writesSp i = false → t.sp = s.sp) ∧ t.run = s.run

/-- The running/halted indicator (10_state.md R40). -/
def Obligations.RunIsReadAndWrittenByNoInstruction : Prop :=
  (∀ (i : Instr) (s : State) (r : Bool), ∃ t, exec i s = .next t ∧ t.run = s.run ∧ exec i { s with run := r } = .next { t with run := r }) ∧
  (∀ s t : State, step s = .next t → s.run = true → t.run = false → opcodeForm (s.readByte s.pc) = none) ∧
  (∀ s t : State, step s = .next t → s.run = false → t = s) ∧
  (∀ (g : Config.GpioBinding) (p : Bool) (s : State), (s.setButtonPin g p).run = s.run) ∧
  (∀ s : State, s.hostReset.run = true ∧ s.isHalted = !s.run ∧ s.snapshot.run = s.run) ∧
  State.reset.run = true ∧ (∀ image : List Byte, (State.launch image).run = true)

/-- The two descriptions of V in 42_arithmetic.md section 2 agree; that ADC and SBC write V at all is decision D5 of the spec. -/
def Obligations.OverflowIsSignedOverflow : Prop :=
  ∀ (a m : Byte) (c : Bool),
    overflow a m (narrow (sumOf a m c)) = true ↔
      (a.toInt + m.toInt + (c.toNat : Int) < -128 ∨ 127 < a.toInt + m.toInt + (c.toNat : Int))

/-- The remarks beside the SBC pseudocode (42_arithmetic.md section 2); the formula is decision D6 of the spec. -/
def Obligations.SubtractionByComplement : Prop :=
  ∀ (a m : Byte) (c : Bool),
    narrow (sumOf a (m ^^^ 0xFF) c) = a - m - (if c then 0 else 1) ∧
    (carryOut (sumOf a (m ^^^ 0xFF) c) = true ↔ m.toNat + (1 - c.toNat) ≤ a.toNat) ∧
    (overflow a (m ^^^ 0xFF) (narrow (sumOf a (m ^^^ 0xFF) c)) = true ↔
      (a.toInt - m.toInt - (1 - (c.toNat : Int)) < -128 ∨ 127 < a.toInt - m.toInt - (1 - (c.toNat : Int))))

/-- No decimal arithmetic (42_arithmetic.md section 1); decision D7 of the spec. -/
def Obligations.DecimalFlagHasNoEffect : Prop :=
  ∀ (i : Instr) (s : State) (f : Bool), i.mnemonic = .adc ∨ i.mnemonic = .sbc →
    ∃ t, exec i s = .next t ∧ t.d = s.d ∧ exec i { s with d := f } = .next { t with d := f }

/-- The packed flag byte (10_state.md section 4); the layout and bit 5 are decision D8 of the spec (log entry 7 binds bit 5). -/
def Obligations.PackedByteLayout : Prop :=
  ∀ s : State, s.pack.getLsbD 7 = s.n ∧ s.pack.getLsbD 6 = s.v ∧ s.pack.getLsbD 5 = false ∧ s.pack.getLsbD 4 = s.b ∧
    s.pack.getLsbD 3 = s.d ∧ s.pack.getLsbD 2 = s.i ∧ s.pack.getLsbD 1 = s.z ∧ s.pack.getLsbD 0 = s.c

/-- The stack primitives (45_stack_transfer_flag.md section 1). The base 0x0100 is the spec's value of STACK_BASE, decision D4 (log entry 6). -/
def Obligations.PushThenPull : Prop :=
  ∀ (s : State) (w : Byte),
    (s.push w).readByte (0x0100 + zext16 s.sp) = w ∧
    (∀ k : Addr, k ≠ 0x0100 + zext16 s.sp → (s.push w).readByte k = s.readByte k) ∧
    s.push w = { s with sp := s.sp - 1, mem := (s.push w).mem } ∧
    s.pullByte = s.readByte (0x0100 + zext16 (s.sp + 1)) ∧ s.pullRest = { s with sp := s.sp + 1 } ∧
    (s.push w).pullByte = w ∧ (s.push w).pullRest = { s with mem := (s.push w).mem }

/-- The round-trip law as 90_conflicts.md C1 reads it, for every SP including the wrapping ones (44_control.md section 3). -/
def Obligations.JsrRtsRoundTrip : Prop :=
  ∀ (s t u : State) (w : Addr), exec (.jsr w) s = .next t → exec .rts t = .next u →
    u = { s with pc := s.pc + 3, last := none, mem := u.mem } ∧ t.pc = w ∧
    u.readByte (stackAddr s.sp) = hiByte (s.pc + 3) ∧ u.readByte (stackAddr (s.sp - 1)) = loByte (s.pc + 3) ∧
    (∀ k : Addr, k ≠ stackAddr s.sp → k ≠ stackAddr (s.sp - 1) → u.readByte k = s.readByte k)

/-- The corner cases of PHP (45_stack_transfer_flag.md section 2), under the invariant; bit 5 is decision D8 of the spec. -/
def Obligations.PushedFlagByteShape : Prop :=
  ∀ s t : State, s.Inv → exec .php s = .next t →
    (t.readByte (stackAddr s.sp)).getLsbD 5 = false ∧ (t.readByte (stackAddr s.sp)).getLsbD 4 = false ∧
    ((t.readByte (stackAddr s.sp)).getLsbD 7 && (t.readByte (stackAddr s.sp)).getLsbD 1) = false

/-- The loads (41_load_store.md, Loads), decision D14 of the spec; completion, result and frame in one equation. -/
def Obligations.LoadsComplete : Prop :=
  (∀ (i : Instr) (s : State), i.mnemonic = .lda → ∃ ea w, effAddr i.operand s = some ea ∧ operandValue i.operand s = some w ∧
    exec i s = .next { s with a := w, z := w == 0x00, n := w.getLsbD 7, pc := s.pc + BitVec.ofNat 16 i.length, last := some ea }) ∧
  (∀ (i : Instr) (s : State), i.mnemonic = .ldx → ∃ ea w, effAddr i.operand s = some ea ∧ operandValue i.operand s = some w ∧
    exec i s = .next { s with x := w, z := w == 0x00, n := w.getLsbD 7, pc := s.pc + BitVec.ofNat 16 i.length, last := some ea }) ∧
  (∀ (i : Instr) (s : State), i.mnemonic = .ldy → ∃ ea w, effAddr i.operand s = some ea ∧ operandValue i.operand s = some w ∧
    exec i s = .next { s with y := w, z := w == 0x00, n := w.getLsbD 7, pc := s.pc + BitVec.ofNat 16 i.length, last := some ea })

/-- The stores (41_load_store.md, Stores). What writing does to each byte of memory is WriteReplacesOneByte. -/
def Obligations.StoresComplete : Prop :=
  (∀ (i : Instr) (s : State), i.mnemonic = .sta → ∃ ea, effAddr i.operand s = some ea ∧
    exec i s = .next { s with pc := s.pc + BitVec.ofNat 16 i.length, last := some ea, mem := s.mem.write ea.toNat s.a }) ∧
  (∀ (i : Instr) (s : State), i.mnemonic = .stx → ∃ ea, effAddr i.operand s = some ea ∧
    exec i s = .next { s with pc := s.pc + BitVec.ofNat 16 i.length, last := some ea, mem := s.mem.write ea.toNat s.x }) ∧
  (∀ (i : Instr) (s : State), i.mnemonic = .sty → ∃ ea, effAddr i.operand s = some ea ∧
    exec i s = .next { s with pc := s.pc + BitVec.ofNat 16 i.length, last := some ea, mem := s.mem.write ea.toNat s.y })

/-- ADC (42_arithmetic.md section 2); V is decision D5 of the spec. -/
def Obligations.AdcCompletes : Prop :=
  ∀ (i : Instr) (s : State), i.mnemonic = .adc → ∃ ea m, effAddr i.operand s = some ea ∧ operandValue i.operand s = some m ∧
    ∃ (t : Nat) (r : Byte), t = s.a.toNat + m.toNat + (if s.c then 1 else 0) ∧ r.toNat = t % 256 ∧
    exec i s = .next { s with a := r, c := decide (t > 255), v := ((s.a ^^^ r) &&& (m ^^^ r) &&& 0x80) != 0, z := r == 0x00, n := r.getLsbD 7, pc := s.pc + BitVec.ofNat 16 i.length, last := some ea }

/-- SBC (42_arithmetic.md section 2); the formula is decision D6, V decision D5 of the spec. -/
def Obligations.SbcCompletes : Prop :=
  ∀ (i : Instr) (s : State), i.mnemonic = .sbc → ∃ ea m, effAddr i.operand s = some ea ∧ operandValue i.operand s = some m ∧
    ∃ (t : Nat) (r : Byte), t = s.a.toNat + (m ^^^ 0xFF).toNat + (if s.c then 1 else 0) ∧ r.toNat = t % 256 ∧
    exec i s = .next { s with a := r, c := decide (t > 255), v := ((s.a ^^^ r) &&& ((m ^^^ 0xFF) ^^^ r) &&& 0x80) != 0, z := r == 0x00, n := r.getLsbD 7, pc := s.pc + BitVec.ofNat 16 i.length, last := some ea }

/-- The compares (42_arithmetic.md section 3). -/
def Obligations.ComparesComplete : Prop :=
  (∀ (i : Instr) (s : State), i.mnemonic = .cmp → ∃ ea w, effAddr i.operand s = some ea ∧ operandValue i.operand s = some w ∧
    exec i s = .next { s with c := decide (s.a.toNat ≥ w.toNat), z := s.a - w == 0x00, n := (s.a - w).getLsbD 7, pc := s.pc + BitVec.ofNat 16 i.length, last := some ea }) ∧
  (∀ (i : Instr) (s : State), i.mnemonic = .cpx → ∃ ea w, effAddr i.operand s = some ea ∧ operandValue i.operand s = some w ∧
    exec i s = .next { s with c := decide (s.x.toNat ≥ w.toNat), z := s.x - w == 0x00, n := (s.x - w).getLsbD 7, pc := s.pc + BitVec.ofNat 16 i.length, last := some ea }) ∧
  (∀ (i : Instr) (s : State), i.mnemonic = .cpy → ∃ ea w, effAddr i.operand s = some ea ∧ operandValue i.operand s = some w ∧
    exec i s = .next { s with c := decide (s.y.toNat ≥ w.toNat), z := s.y - w == 0x00, n := (s.y - w).getLsbD 7, pc := s.pc + BitVec.ofNat 16 i.length, last := some ea })

/-- INC and DEC (42_arithmetic.md section 4), decision D14 of the spec. -/
def Obligations.MemoryIncrementsComplete : Prop :=
  (∀ (i : Instr) (s : State), i.mnemonic = .inc → ∃ ea r, effAddr i.operand s = some ea ∧ r = s.readByte ea + 1 ∧
    exec i s = .next { s with z := r == 0x00, n := r.getLsbD 7, pc := s.pc + BitVec.ofNat 16 i.length, last := some ea, mem := s.mem.write ea.toNat r }) ∧
  (∀ (i : Instr) (s : State), i.mnemonic = .dec → ∃ ea r, effAddr i.operand s = some ea ∧ r = s.readByte ea - 1 ∧
    exec i s = .next { s with z := r == 0x00, n := r.getLsbD 7, pc := s.pc + BitVec.ofNat 16 i.length, last := some ea, mem := s.mem.write ea.toNat r })

/-- INX, INY, DEX, DEY (42_arithmetic.md section 4), decision D14 of the spec. -/
def Obligations.RegisterIncrementsComplete : Prop :=
  (∀ s : State, exec .inx s = .next { s with x := s.x + 1, z := (s.x + 1) == 0x00, n := (s.x + 1).getLsbD 7, pc := s.pc + 1 }) ∧
  (∀ s : State, exec .iny s = .next { s with y := s.y + 1, z := (s.y + 1) == 0x00, n := (s.y + 1).getLsbD 7, pc := s.pc + 1 }) ∧
  (∀ s : State, exec .dex s = .next { s with x := s.x - 1, z := (s.x - 1) == 0x00, n := (s.x - 1).getLsbD 7, pc := s.pc + 1 }) ∧
  (∀ s : State, exec .dey s = .next { s with y := s.y - 1, z := (s.y - 1) == 0x00, n := (s.y - 1).getLsbD 7, pc := s.pc + 1 })

/-- The logical instructions (43_logic_shift.md section 1), decision D14 of the spec. -/
def Obligations.LogicalsComplete : Prop :=
  (∀ (i : Instr) (s : State), i.mnemonic = .and → ∃ ea w r, effAddr i.operand s = some ea ∧ operandValue i.operand s = some w ∧
    r = s.a &&& w ∧ exec i s = .next { s with a := r, z := r == 0x00, n := r.getLsbD 7, pc := s.pc + BitVec.ofNat 16 i.length, last := some ea }) ∧
  (∀ (i : Instr) (s : State), i.mnemonic = .ora → ∃ ea w r, effAddr i.operand s = some ea ∧ operandValue i.operand s = some w ∧
    r = s.a ||| w ∧ exec i s = .next { s with a := r, z := r == 0x00, n := r.getLsbD 7, pc := s.pc + BitVec.ofNat 16 i.length, last := some ea }) ∧
  (∀ (i : Instr) (s : State), i.mnemonic = .eor → ∃ ea w r, effAddr i.operand s = some ea ∧ operandValue i.operand s = some w ∧
    r = s.a ^^^ w ∧ exec i s = .next { s with a := r, z := r == 0x00, n := r.getLsbD 7, pc := s.pc + BitVec.ofNat 16 i.length, last := some ea })

/-- The shifts (43_logic_shift.md section 2). -/
def Obligations.ShiftsComplete : Prop :=
  (∀ (i : Instr) (s : State), i.mnemonic = .asl →
    (i.operand = .acc ∧ exec i s = .next { s with a := s.a <<< 1, c := s.a.getLsbD 7, z := s.a <<< 1 == 0x00, n := (s.a <<< 1).getLsbD 7, pc := s.pc + 1 }) ∨
    (∃ ea w, effAddr i.operand s = some ea ∧ w = s.readByte ea ∧
      exec i s = .next { s with c := w.getLsbD 7, z := w <<< 1 == 0x00, n := (w <<< 1).getLsbD 7, pc := s.pc + BitVec.ofNat 16 i.length, last := some ea, mem := s.mem.write ea.toNat (w <<< 1) })) ∧
  (∀ (i : Instr) (s : State), i.mnemonic = .lsr →
    (i.operand = .acc ∧ exec i s = .next { s with a := s.a >>> 1, c := s.a.getLsbD 0, z := s.a >>> 1 == 0x00, n := (s.a >>> 1).getLsbD 7, pc := s.pc + 1 }) ∨
    (∃ ea w, effAddr i.operand s = some ea ∧ w = s.readByte ea ∧
      exec i s = .next { s with c := w.getLsbD 0, z := w >>> 1 == 0x00, n := (w >>> 1).getLsbD 7, pc := s.pc + BitVec.ofNat 16 i.length, last := some ea, mem := s.mem.write ea.toNat (w >>> 1) }))

/-- The branches (44_control.md section 1); which flag each tests is decision D15 of the spec. -/
def Obligations.BranchesComplete : Prop :=
  ∀ (off : Byte) (s : State), ∃ next target : Addr, next.toNat = (s.pc.toNat + 2) % 65536 ∧
    (target.toNat : Int) = ((s.pc.toNat : Int) + 2 + (if off.toNat < 128 then (off.toNat : Int) else (off.toNat : Int) - 256)) % 65536 ∧
    exec (.bcc off) s = .next { s with pc := if s.c = false then target else next, last := none } ∧
    exec (.bcs off) s = .next { s with pc := if s.c = true then target else next, last := none } ∧
    exec (.beq off) s = .next { s with pc := if s.z = true then target else next, last := none } ∧
    exec (.bne off) s = .next { s with pc := if s.z = false then target else next, last := none } ∧
    exec (.bmi off) s = .next { s with pc := if s.n = true then target else next, last := none } ∧
    exec (.bpl off) s = .next { s with pc := if s.n = false then target else next, last := none } ∧
    exec (.bvc off) s = .next { s with pc := if s.v = false then target else next, last := none } ∧
    exec (.bvs off) s = .next { s with pc := if s.v = true then target else next, last := none }

/-- JMP (44_control.md section 2); decisions D10, D11, D14 of the spec. -/
def Obligations.JmpCompletes : Prop :=
  ∀ (w : Addr) (s : State),
    exec (.jmpAbs w) s = .next { s with pc := w, last := none } ∧
    exec (.jmpInd w) s = .next { s with pc := wordOf (s.readByte w) (s.readByte (w + 1)), last := none }

/-- JSR (44_control.md section 3); the base of the stack is decision D4 of the spec (log entry 6). -/
def Obligations.JsrCompletes : Prop :=
  ∀ (w : Addr) (s : State),
    exec (.jsr w) s = .next { s with sp := s.sp - 1 - 1, pc := w, last := none, mem := (s.mem.write (stackAddr s.sp).toNat (hiByte (s.pc + 3))).write (stackAddr (s.sp - 1)).toNat (loByte (s.pc + 3)) }

/-- RTS (44_control.md section 3); the base of the stack is decision D4 of the spec (log entry 6). -/
def Obligations.RtsCompletes : Prop :=
  ∀ s : State, exec .rts s = .next { s with sp := s.sp + 1 + 1, pc := wordOf (s.readByte (stackAddr (s.sp + 1))) (s.readByte (stackAddr (s.sp + 1 + 1))), last := none }

/-- PHA and PHP (45_stack_transfer_flag.md section 2); stack base and packed layout are decisions D4, D8 of the spec. -/
def Obligations.PushInstructionsComplete : Prop :=
  ∀ s : State,
    exec .pha s = .next { s with sp := s.sp - 1, pc := s.pc + 1, mem := s.mem.write (stackAddr s.sp).toNat s.a } ∧
    exec .php s = .next { s with sp := s.sp - 1, pc := s.pc + 1, mem := s.mem.write (stackAddr s.sp).toNat s.pack }

/-- PLA (45_stack_transfer_flag.md section 2); that it sets Z and N is decision D9 of the spec. -/
def Obligations.PlaCompletes : Prop :=
  ∀ s : State, ∃ w : Byte, w = s.readByte (stackAddr (s.sp + 1)) ∧
    exec .pla s = .next { s with a := w, sp := s.sp + 1, z := w == 0x00, n := w.getLsbD 7, pc := s.pc + 1 }

/-- The register transfers (45_stack_transfer_flag.md section 3). -/
def Obligations.TransfersComplete : Prop :=
  ∀ s : State,
    exec .tax s = .next { s with x := s.a, z := s.a == 0x00, n := s.a.getLsbD 7, pc := s.pc + 1 } ∧
    exec .tay s = .next { s with y := s.a, z := s.a == 0x00, n := s.a.getLsbD 7, pc := s.pc + 1 } ∧
    exec .tsx s = .next { s with x := s.sp, z := s.sp == 0x00, n := s.sp.getLsbD 7, pc := s.pc + 1 } ∧
    exec .txa s = .next { s with a := s.x, z := s.x == 0x00, n := s.x.getLsbD 7, pc := s.pc + 1 } ∧
    exec .tya s = .next { s with a := s.y, z := s.y == 0x00, n := s.y.getLsbD 7, pc := s.pc + 1 } ∧
    exec .txs s = .next { s with sp := s.x, pc := s.pc + 1 }

/-- The flag instructions and NOP (45_stack_transfer_flag.md sections 4, 5); decisions D3, D14 of the spec. -/
def Obligations.FlagInstructionsComplete : Prop :=
  ∀ s : State,
    exec .clc s = .next { s with c := false, pc := s.pc + 1 } ∧
    exec .sec s = .next { s with c := true, pc := s.pc + 1 } ∧
    exec .cli s = .next { s with i := false, pc := s.pc + 1 } ∧
    exec .sei s = .next { s with i := true, pc := s.pc + 1 } ∧
    exec .clv s = .next { s with v := false, pc := s.pc + 1 } ∧
    exec .cld s = .next { s with d := false, pc := s.pc + 1 } ∧
    exec .sed s = .next { s with d := true, pc := s.pc + 1 } ∧
    exec .nop s = .next { s with pc := s.pc + 1 } ∧
    instrResult .clc = .executed ∧
    instrResult .sec = .executed ∧
    instrResult .cli = .executed ∧
    instrResult .sei = .executed ∧
    instrResult .clv = .executed ∧
    instrResult .cld = .executed ∧
    instrResult .sed = .executed ∧
    instrResult .nop = .executed

/-- The inert opcodes (46_inert.md); that they are inert is decision D2 of the spec, BRK's length D13. -/
def Obligations.InertInstructionsComplete : Prop :=
  ∀ (i : Instr) (s : State), i.mnemonic ∈ [Mnemonic.brk, .plp, .rol, .ror, .rti, .bit] →
    exec i s = .next { s with pc := s.pc + BitVec.ofNat 16 i.length, last := (match effAddr i.operand s with | some ea => some ea | none => s.last) } ∧
    instrResult i = .executedAsNoop

/-- The button (60_exceptions.md section 8); for every binding of the open parameters (D17), in both states of RUN (D27). -/
def Obligations.ButtonSetsOneInputBit : Prop :=
  ∀ (g : Config.GpioBinding) (p : Bool) (s : State),
    ((s.readByte g.buttonDdr).getLsbD g.buttonBit.val = true → s.setButtonPin g p = s) ∧
    ((s.readByte g.buttonDdr).getLsbD g.buttonBit.val = false →
      ((s.setButtonPin g p).readByte g.buttonPort).getLsbD g.buttonBit.val = p ∧
      (∀ k : Nat, k < 8 → k ≠ g.buttonBit.val →
        ((s.setButtonPin g p).readByte g.buttonPort).getLsbD k = (s.readByte g.buttonPort).getLsbD k) ∧
      (∀ a : Addr, a ≠ g.buttonPort → (s.setButtonPin g p).readByte a = s.readByte a) ∧
      s.setButtonPin g p = { s with mem := (s.setButtonPin g p).mem }) ∧
    (∀ r : Bool, ({ s with run := r } : State).setButtonPin g p = { s.setButtonPin g p with run := r })

/-- The observation entry points (60_exceptions.md section 10). A range past the end is left to the host by the spec (91_not_in_source.md N21); the model answers none there (log entry 12). -/
def Obligations.ObservationsReadTheState : Prop :=
  ∀ s : State,
    (s.snapshot = { a := s.a, x := s.x, y := s.y, sp := s.sp, pc := s.pc, n := s.n, v := s.v, b := s.b, d := s.d, i := s.i, z := s.z, c := s.c, run := s.run }) ∧
    s.lastAccessedAddress = s.last ∧ s.isHalted = !s.run ∧
    (∀ (start : Addr) (len : Nat), start.toNat + len ≤ 65536 →
      ∃ bytes, s.readMemoryRange start len = some bytes ∧ bytes.length = len ∧
        ∀ k : Nat, k < len → bytes[k]? = some (s.mem.read (start.toNat + k))) ∧
    (∀ (start : Addr) (len : Nat), 65536 < start.toNat + len → s.readMemoryRange start len = none)
end

