-- ==== Sys2Proof/Laws/Decode.lean ====
section
/-! SUPPORT. The small lemmas of the byte helpers and of the decoder: one per format. -/

namespace Sys2Proof

/-- The number a word's two bytes make. -/
theorem toNat_wordOf (lo hi : Byte) : (wordOf lo hi).toNat = lo.toNat + 256 * hi.toNat := by
  have hl := lo.isLt
  rw [wordOf, BitVec.toNat_append, ← Nat.shiftLeft_add_eq_or_of_lt hl, Nat.shiftLeft_eq]
  ring

theorem toNat_loByte (w : Addr) : (loByte w).toNat = w.toNat % 256 := by
  simp only [loByte, BitVec.toNat_setWidth, Nat.reducePow]

theorem toNat_hiByte (w : Addr) : (hiByte w).toNat = w.toNat / 256 := by
  have := w.isLt
  simp only [hiByte, BitVec.toNat_setWidth, BitVec.toNat_ushiftRight, Nat.shiftRight_eq_div_pow]
  omega

@[simp] theorem loByte_wordOf (lo hi : Byte) : loByte (wordOf lo hi) = lo := by
  apply BitVec.eq_of_toNat_eq
  have := lo.isLt
  rw [toNat_loByte, toNat_wordOf]
  omega

@[simp] theorem hiByte_wordOf (lo hi : Byte) : hiByte (wordOf lo hi) = hi := by
  apply BitVec.eq_of_toNat_eq
  have := lo.isLt
  rw [toNat_hiByte, toNat_wordOf]
  omega

@[simp] theorem wordOf_lo_hi (w : Addr) : wordOf (loByte w) (hiByte w) = w := by
  apply BitVec.eq_of_toNat_eq
  rw [toNat_wordOf, toNat_loByte, toNat_hiByte]
  omega

theorem toNat_zext16 (b : Byte) : (zext16 b).toNat = b.toNat := by
  have := b.isLt
  simp only [zext16, BitVec.toNat_setWidth]
  omega

/-! An opcode byte of each format takes exactly its operand bytes (30_encoding.md R102 to R104). -/

theorem decode_none {op : Byte} (rest : List Byte) (h : opcodeForm op = none) :
    decode (op :: rest) = .error (.invalidOpcode op) := by
  simp only [decode, h]

theorem decode_f1 {op : Byte} {i : Instr} (rest : List Byte) (h : opcodeForm op = some (.f1 i)) :
    decode (op :: rest) = .ok (i, rest) := by
  simp only [decode, h]

theorem decode_f2 {op : Byte} {mk : Byte → Instr} (b : Byte) (rest : List Byte)
    (h : opcodeForm op = some (.f2 mk)) : decode (op :: b :: rest) = .ok (mk b, rest) := by
  simp only [decode, h]

theorem decode_f3 {op : Byte} {mk : Addr → Instr} (w : Addr) (rest : List Byte)
    (h : opcodeForm op = some (.f3 mk)) : decode (op :: loByte w :: hiByte w :: rest) = .ok (mk w, rest) := by
  simp only [decode, h, wordOf_lo_hi]

/-- Everything an answer of the decoder can come from. -/
theorem decode_cases {bytes rest : List Byte} {i : Instr} (h : decode bytes = .ok (i, rest)) :
    (∃ op, opcodeForm op = some (.f1 i) ∧ bytes = op :: rest) ∨
    (∃ op mk b, opcodeForm op = some (.f2 mk) ∧ i = mk b ∧ bytes = op :: b :: rest) ∨
    (∃ op mk lo hi, opcodeForm op = some (.f3 mk) ∧ i = mk (wordOf lo hi) ∧ bytes = op :: lo :: hi :: rest) := by
  unfold decode at h
  split at h
  · cases h
  · split at h
    · cases h
    · cases h
      exact .inl ⟨_, ‹_›, rfl⟩
    · split at h
      · cases h
        exact .inr (.inl ⟨_, _, _, ‹_›, rfl, rfl⟩)
      · cases h
    · split at h
      · cases h
        exact .inr (.inr ⟨_, _, _, _, ‹_›, rfl, rfl⟩)
      · cases h

/-! The rows of the decode table (30_encoding.md R110), so that no proof evaluates the table by unfolding it. -/

@[simp] theorem opcodeForm_brk : opcodeForm 0x00#8 = some (.f1 .brk) := rfl
@[simp] theorem opcodeForm_oraIndx : opcodeForm 0x01#8 = some (.f2 .oraIndx) := rfl
@[simp] theorem opcodeForm_oraZp : opcodeForm 0x05#8 = some (.f2 .oraZp) := rfl
@[simp] theorem opcodeForm_aslZp : opcodeForm 0x06#8 = some (.f2 .aslZp) := rfl
@[simp] theorem opcodeForm_php : opcodeForm 0x08#8 = some (.f1 .php) := rfl
@[simp] theorem opcodeForm_oraImm : opcodeForm 0x09#8 = some (.f2 .oraImm) := rfl
@[simp] theorem opcodeForm_aslAcc : opcodeForm 0x0A#8 = some (.f1 .aslAcc) := rfl
@[simp] theorem opcodeForm_oraAbs : opcodeForm 0x0D#8 = some (.f3 .oraAbs) := rfl
@[simp] theorem opcodeForm_aslAbs : opcodeForm 0x0E#8 = some (.f3 .aslAbs) := rfl
@[simp] theorem opcodeForm_bpl : opcodeForm 0x10#8 = some (.f2 .bpl) := rfl
@[simp] theorem opcodeForm_oraIndy : opcodeForm 0x11#8 = some (.f2 .oraIndy) := rfl
@[simp] theorem opcodeForm_oraZpx : opcodeForm 0x15#8 = some (.f2 .oraZpx) := rfl
@[simp] theorem opcodeForm_aslZpx : opcodeForm 0x16#8 = some (.f2 .aslZpx) := rfl
@[simp] theorem opcodeForm_clc : opcodeForm 0x18#8 = some (.f1 .clc) := rfl
@[simp] theorem opcodeForm_oraAbsy : opcodeForm 0x19#8 = some (.f3 .oraAbsy) := rfl
@[simp] theorem opcodeForm_oraAbsx : opcodeForm 0x1D#8 = some (.f3 .oraAbsx) := rfl
@[simp] theorem opcodeForm_aslAbsx : opcodeForm 0x1E#8 = some (.f3 .aslAbsx) := rfl
@[simp] theorem opcodeForm_jsr : opcodeForm 0x20#8 = some (.f3 .jsr) := rfl
@[simp] theorem opcodeForm_andIndx : opcodeForm 0x21#8 = some (.f2 .andIndx) := rfl
@[simp] theorem opcodeForm_bitZp : opcodeForm 0x24#8 = some (.f2 .bitZp) := rfl
@[simp] theorem opcodeForm_andZp : opcodeForm 0x25#8 = some (.f2 .andZp) := rfl
@[simp] theorem opcodeForm_rolZp : opcodeForm 0x26#8 = some (.f2 .rolZp) := rfl
@[simp] theorem opcodeForm_plp : opcodeForm 0x28#8 = some (.f1 .plp) := rfl
@[simp] theorem opcodeForm_andImm : opcodeForm 0x29#8 = some (.f2 .andImm) := rfl
@[simp] theorem opcodeForm_rolAcc : opcodeForm 0x2A#8 = some (.f1 .rolAcc) := rfl
@[simp] theorem opcodeForm_bitAbs : opcodeForm 0x2C#8 = some (.f3 .bitAbs) := rfl
@[simp] theorem opcodeForm_andAbs : opcodeForm 0x2D#8 = some (.f3 .andAbs) := rfl
@[simp] theorem opcodeForm_rolAbs : opcodeForm 0x2E#8 = some (.f3 .rolAbs) := rfl
@[simp] theorem opcodeForm_bmi : opcodeForm 0x30#8 = some (.f2 .bmi) := rfl
@[simp] theorem opcodeForm_andIndy : opcodeForm 0x31#8 = some (.f2 .andIndy) := rfl
@[simp] theorem opcodeForm_andZpx : opcodeForm 0x35#8 = some (.f2 .andZpx) := rfl
@[simp] theorem opcodeForm_rolZpx : opcodeForm 0x36#8 = some (.f2 .rolZpx) := rfl
@[simp] theorem opcodeForm_sec : opcodeForm 0x38#8 = some (.f1 .sec) := rfl
@[simp] theorem opcodeForm_andAbsy : opcodeForm 0x39#8 = some (.f3 .andAbsy) := rfl
@[simp] theorem opcodeForm_andAbsx : opcodeForm 0x3D#8 = some (.f3 .andAbsx) := rfl
@[simp] theorem opcodeForm_rolAbsx : opcodeForm 0x3E#8 = some (.f3 .rolAbsx) := rfl
@[simp] theorem opcodeForm_rti : opcodeForm 0x40#8 = some (.f1 .rti) := rfl
@[simp] theorem opcodeForm_eorIndx : opcodeForm 0x41#8 = some (.f2 .eorIndx) := rfl
@[simp] theorem opcodeForm_eorZp : opcodeForm 0x45#8 = some (.f2 .eorZp) := rfl
@[simp] theorem opcodeForm_lsrZp : opcodeForm 0x46#8 = some (.f2 .lsrZp) := rfl
@[simp] theorem opcodeForm_pha : opcodeForm 0x48#8 = some (.f1 .pha) := rfl
@[simp] theorem opcodeForm_eorImm : opcodeForm 0x49#8 = some (.f2 .eorImm) := rfl
@[simp] theorem opcodeForm_lsrAcc : opcodeForm 0x4A#8 = some (.f1 .lsrAcc) := rfl
@[simp] theorem opcodeForm_jmpAbs : opcodeForm 0x4C#8 = some (.f3 .jmpAbs) := rfl
@[simp] theorem opcodeForm_eorAbs : opcodeForm 0x4D#8 = some (.f3 .eorAbs) := rfl
@[simp] theorem opcodeForm_lsrAbs : opcodeForm 0x4E#8 = some (.f3 .lsrAbs) := rfl
@[simp] theorem opcodeForm_bvc : opcodeForm 0x50#8 = some (.f2 .bvc) := rfl
@[simp] theorem opcodeForm_eorIndy : opcodeForm 0x51#8 = some (.f2 .eorIndy) := rfl
@[simp] theorem opcodeForm_eorZpx : opcodeForm 0x55#8 = some (.f2 .eorZpx) := rfl
@[simp] theorem opcodeForm_lsrZpx : opcodeForm 0x56#8 = some (.f2 .lsrZpx) := rfl
@[simp] theorem opcodeForm_cli : opcodeForm 0x58#8 = some (.f1 .cli) := rfl
@[simp] theorem opcodeForm_eorAbsy : opcodeForm 0x59#8 = some (.f3 .eorAbsy) := rfl
@[simp] theorem opcodeForm_eorAbsx : opcodeForm 0x5D#8 = some (.f3 .eorAbsx) := rfl
@[simp] theorem opcodeForm_lsrAbsx : opcodeForm 0x5E#8 = some (.f3 .lsrAbsx) := rfl
@[simp] theorem opcodeForm_rts : opcodeForm 0x60#8 = some (.f1 .rts) := rfl
@[simp] theorem opcodeForm_adcIndx : opcodeForm 0x61#8 = some (.f2 .adcIndx) := rfl
@[simp] theorem opcodeForm_adcZp : opcodeForm 0x65#8 = some (.f2 .adcZp) := rfl
@[simp] theorem opcodeForm_rorZp : opcodeForm 0x66#8 = some (.f2 .rorZp) := rfl
@[simp] theorem opcodeForm_pla : opcodeForm 0x68#8 = some (.f1 .pla) := rfl
@[simp] theorem opcodeForm_adcImm : opcodeForm 0x69#8 = some (.f2 .adcImm) := rfl
@[simp] theorem opcodeForm_rorAcc : opcodeForm 0x6A#8 = some (.f1 .rorAcc) := rfl
@[simp] theorem opcodeForm_jmpInd : opcodeForm 0x6C#8 = some (.f3 .jmpInd) := rfl
@[simp] theorem opcodeForm_adcAbs : opcodeForm 0x6D#8 = some (.f3 .adcAbs) := rfl
@[simp] theorem opcodeForm_rorAbs : opcodeForm 0x6E#8 = some (.f3 .rorAbs) := rfl
@[simp] theorem opcodeForm_bvs : opcodeForm 0x70#8 = some (.f2 .bvs) := rfl
@[simp] theorem opcodeForm_adcIndy : opcodeForm 0x71#8 = some (.f2 .adcIndy) := rfl
@[simp] theorem opcodeForm_adcZpx : opcodeForm 0x75#8 = some (.f2 .adcZpx) := rfl
@[simp] theorem opcodeForm_rorZpx : opcodeForm 0x76#8 = some (.f2 .rorZpx) := rfl
@[simp] theorem opcodeForm_sei : opcodeForm 0x78#8 = some (.f1 .sei) := rfl
@[simp] theorem opcodeForm_adcAbsy : opcodeForm 0x79#8 = some (.f3 .adcAbsy) := rfl
@[simp] theorem opcodeForm_adcAbsx : opcodeForm 0x7D#8 = some (.f3 .adcAbsx) := rfl
@[simp] theorem opcodeForm_rorAbsx : opcodeForm 0x7E#8 = some (.f3 .rorAbsx) := rfl
@[simp] theorem opcodeForm_staIndx : opcodeForm 0x81#8 = some (.f2 .staIndx) := rfl
@[simp] theorem opcodeForm_styZp : opcodeForm 0x84#8 = some (.f2 .styZp) := rfl
@[simp] theorem opcodeForm_staZp : opcodeForm 0x85#8 = some (.f2 .staZp) := rfl
@[simp] theorem opcodeForm_stxZp : opcodeForm 0x86#8 = some (.f2 .stxZp) := rfl
@[simp] theorem opcodeForm_dey : opcodeForm 0x88#8 = some (.f1 .dey) := rfl
@[simp] theorem opcodeForm_txa : opcodeForm 0x8A#8 = some (.f1 .txa) := rfl
@[simp] theorem opcodeForm_styAbs : opcodeForm 0x8C#8 = some (.f3 .styAbs) := rfl
@[simp] theorem opcodeForm_staAbs : opcodeForm 0x8D#8 = some (.f3 .staAbs) := rfl
@[simp] theorem opcodeForm_stxAbs : opcodeForm 0x8E#8 = some (.f3 .stxAbs) := rfl
@[simp] theorem opcodeForm_bcc : opcodeForm 0x90#8 = some (.f2 .bcc) := rfl
@[simp] theorem opcodeForm_staIndy : opcodeForm 0x91#8 = some (.f2 .staIndy) := rfl
@[simp] theorem opcodeForm_styZpx : opcodeForm 0x94#8 = some (.f2 .styZpx) := rfl
@[simp] theorem opcodeForm_staZpx : opcodeForm 0x95#8 = some (.f2 .staZpx) := rfl
@[simp] theorem opcodeForm_stxZpy : opcodeForm 0x96#8 = some (.f2 .stxZpy) := rfl
@[simp] theorem opcodeForm_tya : opcodeForm 0x98#8 = some (.f1 .tya) := rfl
@[simp] theorem opcodeForm_staAbsy : opcodeForm 0x99#8 = some (.f3 .staAbsy) := rfl
@[simp] theorem opcodeForm_txs : opcodeForm 0x9A#8 = some (.f1 .txs) := rfl
@[simp] theorem opcodeForm_staAbsx : opcodeForm 0x9D#8 = some (.f3 .staAbsx) := rfl
@[simp] theorem opcodeForm_ldyImm : opcodeForm 0xA0#8 = some (.f2 .ldyImm) := rfl
@[simp] theorem opcodeForm_ldaIndx : opcodeForm 0xA1#8 = some (.f2 .ldaIndx) := rfl
@[simp] theorem opcodeForm_ldxImm : opcodeForm 0xA2#8 = some (.f2 .ldxImm) := rfl
@[simp] theorem opcodeForm_ldyZp : opcodeForm 0xA4#8 = some (.f2 .ldyZp) := rfl
@[simp] theorem opcodeForm_ldaZp : opcodeForm 0xA5#8 = some (.f2 .ldaZp) := rfl
@[simp] theorem opcodeForm_ldxZp : opcodeForm 0xA6#8 = some (.f2 .ldxZp) := rfl
@[simp] theorem opcodeForm_tay : opcodeForm 0xA8#8 = some (.f1 .tay) := rfl
@[simp] theorem opcodeForm_ldaImm : opcodeForm 0xA9#8 = some (.f2 .ldaImm) := rfl
@[simp] theorem opcodeForm_tax : opcodeForm 0xAA#8 = some (.f1 .tax) := rfl
@[simp] theorem opcodeForm_ldyAbs : opcodeForm 0xAC#8 = some (.f3 .ldyAbs) := rfl
@[simp] theorem opcodeForm_ldaAbs : opcodeForm 0xAD#8 = some (.f3 .ldaAbs) := rfl
@[simp] theorem opcodeForm_ldxAbs : opcodeForm 0xAE#8 = some (.f3 .ldxAbs) := rfl
@[simp] theorem opcodeForm_bcs : opcodeForm 0xB0#8 = some (.f2 .bcs) := rfl
@[simp] theorem opcodeForm_ldaIndy : opcodeForm 0xB1#8 = some (.f2 .ldaIndy) := rfl
@[simp] theorem opcodeForm_ldyZpx : opcodeForm 0xB4#8 = some (.f2 .ldyZpx) := rfl
@[simp] theorem opcodeForm_ldaZpx : opcodeForm 0xB5#8 = some (.f2 .ldaZpx) := rfl
@[simp] theorem opcodeForm_ldxZpy : opcodeForm 0xB6#8 = some (.f2 .ldxZpy) := rfl
@[simp] theorem opcodeForm_clv : opcodeForm 0xB8#8 = some (.f1 .clv) := rfl
@[simp] theorem opcodeForm_ldaAbsy : opcodeForm 0xB9#8 = some (.f3 .ldaAbsy) := rfl
@[simp] theorem opcodeForm_tsx : opcodeForm 0xBA#8 = some (.f1 .tsx) := rfl
@[simp] theorem opcodeForm_ldyAbsx : opcodeForm 0xBC#8 = some (.f3 .ldyAbsx) := rfl
@[simp] theorem opcodeForm_ldaAbsx : opcodeForm 0xBD#8 = some (.f3 .ldaAbsx) := rfl
@[simp] theorem opcodeForm_ldxAbsy : opcodeForm 0xBE#8 = some (.f3 .ldxAbsy) := rfl
@[simp] theorem opcodeForm_cpyImm : opcodeForm 0xC0#8 = some (.f2 .cpyImm) := rfl
@[simp] theorem opcodeForm_cmpIndx : opcodeForm 0xC1#8 = some (.f2 .cmpIndx) := rfl
@[simp] theorem opcodeForm_cpyZp : opcodeForm 0xC4#8 = some (.f2 .cpyZp) := rfl
@[simp] theorem opcodeForm_cmpZp : opcodeForm 0xC5#8 = some (.f2 .cmpZp) := rfl
@[simp] theorem opcodeForm_decZp : opcodeForm 0xC6#8 = some (.f2 .decZp) := rfl
@[simp] theorem opcodeForm_iny : opcodeForm 0xC8#8 = some (.f1 .iny) := rfl
@[simp] theorem opcodeForm_cmpImm : opcodeForm 0xC9#8 = some (.f2 .cmpImm) := rfl
@[simp] theorem opcodeForm_dex : opcodeForm 0xCA#8 = some (.f1 .dex) := rfl
@[simp] theorem opcodeForm_cpyAbs : opcodeForm 0xCC#8 = some (.f3 .cpyAbs) := rfl
@[simp] theorem opcodeForm_cmpAbs : opcodeForm 0xCD#8 = some (.f3 .cmpAbs) := rfl
@[simp] theorem opcodeForm_decAbs : opcodeForm 0xCE#8 = some (.f3 .decAbs) := rfl
@[simp] theorem opcodeForm_bne : opcodeForm 0xD0#8 = some (.f2 .bne) := rfl
@[simp] theorem opcodeForm_cmpIndy : opcodeForm 0xD1#8 = some (.f2 .cmpIndy) := rfl
@[simp] theorem opcodeForm_cmpZpx : opcodeForm 0xD5#8 = some (.f2 .cmpZpx) := rfl
@[simp] theorem opcodeForm_decZpx : opcodeForm 0xD6#8 = some (.f2 .decZpx) := rfl
@[simp] theorem opcodeForm_cld : opcodeForm 0xD8#8 = some (.f1 .cld) := rfl
@[simp] theorem opcodeForm_cmpAbsy : opcodeForm 0xD9#8 = some (.f3 .cmpAbsy) := rfl
@[simp] theorem opcodeForm_cmpAbsx : opcodeForm 0xDD#8 = some (.f3 .cmpAbsx) := rfl
@[simp] theorem opcodeForm_decAbsx : opcodeForm 0xDE#8 = some (.f3 .decAbsx) := rfl
@[simp] theorem opcodeForm_cpxImm : opcodeForm 0xE0#8 = some (.f2 .cpxImm) := rfl
@[simp] theorem opcodeForm_sbcIndx : opcodeForm 0xE1#8 = some (.f2 .sbcIndx) := rfl
@[simp] theorem opcodeForm_cpxZp : opcodeForm 0xE4#8 = some (.f2 .cpxZp) := rfl
@[simp] theorem opcodeForm_sbcZp : opcodeForm 0xE5#8 = some (.f2 .sbcZp) := rfl
@[simp] theorem opcodeForm_incZp : opcodeForm 0xE6#8 = some (.f2 .incZp) := rfl
@[simp] theorem opcodeForm_inx : opcodeForm 0xE8#8 = some (.f1 .inx) := rfl
@[simp] theorem opcodeForm_sbcImm : opcodeForm 0xE9#8 = some (.f2 .sbcImm) := rfl
@[simp] theorem opcodeForm_nop : opcodeForm 0xEA#8 = some (.f1 .nop) := rfl
@[simp] theorem opcodeForm_cpxAbs : opcodeForm 0xEC#8 = some (.f3 .cpxAbs) := rfl
@[simp] theorem opcodeForm_sbcAbs : opcodeForm 0xED#8 = some (.f3 .sbcAbs) := rfl
@[simp] theorem opcodeForm_incAbs : opcodeForm 0xEE#8 = some (.f3 .incAbs) := rfl
@[simp] theorem opcodeForm_beq : opcodeForm 0xF0#8 = some (.f2 .beq) := rfl
@[simp] theorem opcodeForm_sbcIndy : opcodeForm 0xF1#8 = some (.f2 .sbcIndy) := rfl
@[simp] theorem opcodeForm_sbcZpx : opcodeForm 0xF5#8 = some (.f2 .sbcZpx) := rfl
@[simp] theorem opcodeForm_incZpx : opcodeForm 0xF6#8 = some (.f2 .incZpx) := rfl
@[simp] theorem opcodeForm_sed : opcodeForm 0xF8#8 = some (.f1 .sed) := rfl
@[simp] theorem opcodeForm_sbcAbsy : opcodeForm 0xF9#8 = some (.f3 .sbcAbsy) := rfl
@[simp] theorem opcodeForm_sbcAbsx : opcodeForm 0xFD#8 = some (.f3 .sbcAbsx) := rfl
@[simp] theorem opcodeForm_incAbsx : opcodeForm 0xFE#8 = some (.f3 .incAbsx) := rfl

end Sys2Proof
end

