-- ==== Sys2Proof/Laws/State.lean ====
section
/-! SUPPORT. One lemma per field per named update of the state, so that no proof unfolds a record update. -/

namespace Sys2Proof.Machine

variable (s : State)

@[simp] theorem State.setA_a (w : Byte) : (s.setA w).a = w := rfl
@[simp] theorem State.setA_x (w : Byte) : (s.setA w).x = s.x := rfl
@[simp] theorem State.setA_y (w : Byte) : (s.setA w).y = s.y := rfl
@[simp] theorem State.setA_sp (w : Byte) : (s.setA w).sp = s.sp := rfl
@[simp] theorem State.setA_pc (w : Byte) : (s.setA w).pc = s.pc := rfl
@[simp] theorem State.setA_n (w : Byte) : (s.setA w).n = s.n := rfl
@[simp] theorem State.setA_v (w : Byte) : (s.setA w).v = s.v := rfl
@[simp] theorem State.setA_b (w : Byte) : (s.setA w).b = s.b := rfl
@[simp] theorem State.setA_d (w : Byte) : (s.setA w).d = s.d := rfl
@[simp] theorem State.setA_i (w : Byte) : (s.setA w).i = s.i := rfl
@[simp] theorem State.setA_z (w : Byte) : (s.setA w).z = s.z := rfl
@[simp] theorem State.setA_c (w : Byte) : (s.setA w).c = s.c := rfl
@[simp] theorem State.setA_run (w : Byte) : (s.setA w).run = s.run := rfl
@[simp] theorem State.setA_last (w : Byte) : (s.setA w).last = s.last := rfl
@[simp] theorem State.setA_mem (w : Byte) : (s.setA w).mem = s.mem := rfl

@[simp] theorem State.setX_a (w : Byte) : (s.setX w).a = s.a := rfl
@[simp] theorem State.setX_x (w : Byte) : (s.setX w).x = w := rfl
@[simp] theorem State.setX_y (w : Byte) : (s.setX w).y = s.y := rfl
@[simp] theorem State.setX_sp (w : Byte) : (s.setX w).sp = s.sp := rfl
@[simp] theorem State.setX_pc (w : Byte) : (s.setX w).pc = s.pc := rfl
@[simp] theorem State.setX_n (w : Byte) : (s.setX w).n = s.n := rfl
@[simp] theorem State.setX_v (w : Byte) : (s.setX w).v = s.v := rfl
@[simp] theorem State.setX_b (w : Byte) : (s.setX w).b = s.b := rfl
@[simp] theorem State.setX_d (w : Byte) : (s.setX w).d = s.d := rfl
@[simp] theorem State.setX_i (w : Byte) : (s.setX w).i = s.i := rfl
@[simp] theorem State.setX_z (w : Byte) : (s.setX w).z = s.z := rfl
@[simp] theorem State.setX_c (w : Byte) : (s.setX w).c = s.c := rfl
@[simp] theorem State.setX_run (w : Byte) : (s.setX w).run = s.run := rfl
@[simp] theorem State.setX_last (w : Byte) : (s.setX w).last = s.last := rfl
@[simp] theorem State.setX_mem (w : Byte) : (s.setX w).mem = s.mem := rfl

@[simp] theorem State.setY_a (w : Byte) : (s.setY w).a = s.a := rfl
@[simp] theorem State.setY_x (w : Byte) : (s.setY w).x = s.x := rfl
@[simp] theorem State.setY_y (w : Byte) : (s.setY w).y = w := rfl
@[simp] theorem State.setY_sp (w : Byte) : (s.setY w).sp = s.sp := rfl
@[simp] theorem State.setY_pc (w : Byte) : (s.setY w).pc = s.pc := rfl
@[simp] theorem State.setY_n (w : Byte) : (s.setY w).n = s.n := rfl
@[simp] theorem State.setY_v (w : Byte) : (s.setY w).v = s.v := rfl
@[simp] theorem State.setY_b (w : Byte) : (s.setY w).b = s.b := rfl
@[simp] theorem State.setY_d (w : Byte) : (s.setY w).d = s.d := rfl
@[simp] theorem State.setY_i (w : Byte) : (s.setY w).i = s.i := rfl
@[simp] theorem State.setY_z (w : Byte) : (s.setY w).z = s.z := rfl
@[simp] theorem State.setY_c (w : Byte) : (s.setY w).c = s.c := rfl
@[simp] theorem State.setY_run (w : Byte) : (s.setY w).run = s.run := rfl
@[simp] theorem State.setY_last (w : Byte) : (s.setY w).last = s.last := rfl
@[simp] theorem State.setY_mem (w : Byte) : (s.setY w).mem = s.mem := rfl

@[simp] theorem State.setSp_a (w : Byte) : (s.setSp w).a = s.a := rfl
@[simp] theorem State.setSp_x (w : Byte) : (s.setSp w).x = s.x := rfl
@[simp] theorem State.setSp_y (w : Byte) : (s.setSp w).y = s.y := rfl
@[simp] theorem State.setSp_sp (w : Byte) : (s.setSp w).sp = w := rfl
@[simp] theorem State.setSp_pc (w : Byte) : (s.setSp w).pc = s.pc := rfl
@[simp] theorem State.setSp_n (w : Byte) : (s.setSp w).n = s.n := rfl
@[simp] theorem State.setSp_v (w : Byte) : (s.setSp w).v = s.v := rfl
@[simp] theorem State.setSp_b (w : Byte) : (s.setSp w).b = s.b := rfl
@[simp] theorem State.setSp_d (w : Byte) : (s.setSp w).d = s.d := rfl
@[simp] theorem State.setSp_i (w : Byte) : (s.setSp w).i = s.i := rfl
@[simp] theorem State.setSp_z (w : Byte) : (s.setSp w).z = s.z := rfl
@[simp] theorem State.setSp_c (w : Byte) : (s.setSp w).c = s.c := rfl
@[simp] theorem State.setSp_run (w : Byte) : (s.setSp w).run = s.run := rfl
@[simp] theorem State.setSp_last (w : Byte) : (s.setSp w).last = s.last := rfl
@[simp] theorem State.setSp_mem (w : Byte) : (s.setSp w).mem = s.mem := rfl

@[simp] theorem State.setPc_a (w : Addr) : (s.setPc w).a = s.a := rfl
@[simp] theorem State.setPc_x (w : Addr) : (s.setPc w).x = s.x := rfl
@[simp] theorem State.setPc_y (w : Addr) : (s.setPc w).y = s.y := rfl
@[simp] theorem State.setPc_sp (w : Addr) : (s.setPc w).sp = s.sp := rfl
@[simp] theorem State.setPc_pc (w : Addr) : (s.setPc w).pc = w := rfl
@[simp] theorem State.setPc_n (w : Addr) : (s.setPc w).n = s.n := rfl
@[simp] theorem State.setPc_v (w : Addr) : (s.setPc w).v = s.v := rfl
@[simp] theorem State.setPc_b (w : Addr) : (s.setPc w).b = s.b := rfl
@[simp] theorem State.setPc_d (w : Addr) : (s.setPc w).d = s.d := rfl
@[simp] theorem State.setPc_i (w : Addr) : (s.setPc w).i = s.i := rfl
@[simp] theorem State.setPc_z (w : Addr) : (s.setPc w).z = s.z := rfl
@[simp] theorem State.setPc_c (w : Addr) : (s.setPc w).c = s.c := rfl
@[simp] theorem State.setPc_run (w : Addr) : (s.setPc w).run = s.run := rfl
@[simp] theorem State.setPc_last (w : Addr) : (s.setPc w).last = s.last := rfl
@[simp] theorem State.setPc_mem (w : Addr) : (s.setPc w).mem = s.mem := rfl

@[simp] theorem State.setN_a (w : Bool) : (s.setN w).a = s.a := rfl
@[simp] theorem State.setN_x (w : Bool) : (s.setN w).x = s.x := rfl
@[simp] theorem State.setN_y (w : Bool) : (s.setN w).y = s.y := rfl
@[simp] theorem State.setN_sp (w : Bool) : (s.setN w).sp = s.sp := rfl
@[simp] theorem State.setN_pc (w : Bool) : (s.setN w).pc = s.pc := rfl
@[simp] theorem State.setN_n (w : Bool) : (s.setN w).n = w := rfl
@[simp] theorem State.setN_v (w : Bool) : (s.setN w).v = s.v := rfl
@[simp] theorem State.setN_b (w : Bool) : (s.setN w).b = s.b := rfl
@[simp] theorem State.setN_d (w : Bool) : (s.setN w).d = s.d := rfl
@[simp] theorem State.setN_i (w : Bool) : (s.setN w).i = s.i := rfl
@[simp] theorem State.setN_z (w : Bool) : (s.setN w).z = s.z := rfl
@[simp] theorem State.setN_c (w : Bool) : (s.setN w).c = s.c := rfl
@[simp] theorem State.setN_run (w : Bool) : (s.setN w).run = s.run := rfl
@[simp] theorem State.setN_last (w : Bool) : (s.setN w).last = s.last := rfl
@[simp] theorem State.setN_mem (w : Bool) : (s.setN w).mem = s.mem := rfl

@[simp] theorem State.setV_a (w : Bool) : (s.setV w).a = s.a := rfl
@[simp] theorem State.setV_x (w : Bool) : (s.setV w).x = s.x := rfl
@[simp] theorem State.setV_y (w : Bool) : (s.setV w).y = s.y := rfl
@[simp] theorem State.setV_sp (w : Bool) : (s.setV w).sp = s.sp := rfl
@[simp] theorem State.setV_pc (w : Bool) : (s.setV w).pc = s.pc := rfl
@[simp] theorem State.setV_n (w : Bool) : (s.setV w).n = s.n := rfl
@[simp] theorem State.setV_v (w : Bool) : (s.setV w).v = w := rfl
@[simp] theorem State.setV_b (w : Bool) : (s.setV w).b = s.b := rfl
@[simp] theorem State.setV_d (w : Bool) : (s.setV w).d = s.d := rfl
@[simp] theorem State.setV_i (w : Bool) : (s.setV w).i = s.i := rfl
@[simp] theorem State.setV_z (w : Bool) : (s.setV w).z = s.z := rfl
@[simp] theorem State.setV_c (w : Bool) : (s.setV w).c = s.c := rfl
@[simp] theorem State.setV_run (w : Bool) : (s.setV w).run = s.run := rfl
@[simp] theorem State.setV_last (w : Bool) : (s.setV w).last = s.last := rfl
@[simp] theorem State.setV_mem (w : Bool) : (s.setV w).mem = s.mem := rfl

@[simp] theorem State.setD_a (w : Bool) : (s.setD w).a = s.a := rfl
@[simp] theorem State.setD_x (w : Bool) : (s.setD w).x = s.x := rfl
@[simp] theorem State.setD_y (w : Bool) : (s.setD w).y = s.y := rfl
@[simp] theorem State.setD_sp (w : Bool) : (s.setD w).sp = s.sp := rfl
@[simp] theorem State.setD_pc (w : Bool) : (s.setD w).pc = s.pc := rfl
@[simp] theorem State.setD_n (w : Bool) : (s.setD w).n = s.n := rfl
@[simp] theorem State.setD_v (w : Bool) : (s.setD w).v = s.v := rfl
@[simp] theorem State.setD_b (w : Bool) : (s.setD w).b = s.b := rfl
@[simp] theorem State.setD_d (w : Bool) : (s.setD w).d = w := rfl
@[simp] theorem State.setD_i (w : Bool) : (s.setD w).i = s.i := rfl
@[simp] theorem State.setD_z (w : Bool) : (s.setD w).z = s.z := rfl
@[simp] theorem State.setD_c (w : Bool) : (s.setD w).c = s.c := rfl
@[simp] theorem State.setD_run (w : Bool) : (s.setD w).run = s.run := rfl
@[simp] theorem State.setD_last (w : Bool) : (s.setD w).last = s.last := rfl
@[simp] theorem State.setD_mem (w : Bool) : (s.setD w).mem = s.mem := rfl

@[simp] theorem State.setI_a (w : Bool) : (s.setI w).a = s.a := rfl
@[simp] theorem State.setI_x (w : Bool) : (s.setI w).x = s.x := rfl
@[simp] theorem State.setI_y (w : Bool) : (s.setI w).y = s.y := rfl
@[simp] theorem State.setI_sp (w : Bool) : (s.setI w).sp = s.sp := rfl
@[simp] theorem State.setI_pc (w : Bool) : (s.setI w).pc = s.pc := rfl
@[simp] theorem State.setI_n (w : Bool) : (s.setI w).n = s.n := rfl
@[simp] theorem State.setI_v (w : Bool) : (s.setI w).v = s.v := rfl
@[simp] theorem State.setI_b (w : Bool) : (s.setI w).b = s.b := rfl
@[simp] theorem State.setI_d (w : Bool) : (s.setI w).d = s.d := rfl
@[simp] theorem State.setI_i (w : Bool) : (s.setI w).i = w := rfl
@[simp] theorem State.setI_z (w : Bool) : (s.setI w).z = s.z := rfl
@[simp] theorem State.setI_c (w : Bool) : (s.setI w).c = s.c := rfl
@[simp] theorem State.setI_run (w : Bool) : (s.setI w).run = s.run := rfl
@[simp] theorem State.setI_last (w : Bool) : (s.setI w).last = s.last := rfl
@[simp] theorem State.setI_mem (w : Bool) : (s.setI w).mem = s.mem := rfl

@[simp] theorem State.setZ_a (w : Bool) : (s.setZ w).a = s.a := rfl
@[simp] theorem State.setZ_x (w : Bool) : (s.setZ w).x = s.x := rfl
@[simp] theorem State.setZ_y (w : Bool) : (s.setZ w).y = s.y := rfl
@[simp] theorem State.setZ_sp (w : Bool) : (s.setZ w).sp = s.sp := rfl
@[simp] theorem State.setZ_pc (w : Bool) : (s.setZ w).pc = s.pc := rfl
@[simp] theorem State.setZ_n (w : Bool) : (s.setZ w).n = s.n := rfl
@[simp] theorem State.setZ_v (w : Bool) : (s.setZ w).v = s.v := rfl
@[simp] theorem State.setZ_b (w : Bool) : (s.setZ w).b = s.b := rfl
@[simp] theorem State.setZ_d (w : Bool) : (s.setZ w).d = s.d := rfl
@[simp] theorem State.setZ_i (w : Bool) : (s.setZ w).i = s.i := rfl
@[simp] theorem State.setZ_z (w : Bool) : (s.setZ w).z = w := rfl
@[simp] theorem State.setZ_c (w : Bool) : (s.setZ w).c = s.c := rfl
@[simp] theorem State.setZ_run (w : Bool) : (s.setZ w).run = s.run := rfl
@[simp] theorem State.setZ_last (w : Bool) : (s.setZ w).last = s.last := rfl
@[simp] theorem State.setZ_mem (w : Bool) : (s.setZ w).mem = s.mem := rfl

@[simp] theorem State.setC_a (w : Bool) : (s.setC w).a = s.a := rfl
@[simp] theorem State.setC_x (w : Bool) : (s.setC w).x = s.x := rfl
@[simp] theorem State.setC_y (w : Bool) : (s.setC w).y = s.y := rfl
@[simp] theorem State.setC_sp (w : Bool) : (s.setC w).sp = s.sp := rfl
@[simp] theorem State.setC_pc (w : Bool) : (s.setC w).pc = s.pc := rfl
@[simp] theorem State.setC_n (w : Bool) : (s.setC w).n = s.n := rfl
@[simp] theorem State.setC_v (w : Bool) : (s.setC w).v = s.v := rfl
@[simp] theorem State.setC_b (w : Bool) : (s.setC w).b = s.b := rfl
@[simp] theorem State.setC_d (w : Bool) : (s.setC w).d = s.d := rfl
@[simp] theorem State.setC_i (w : Bool) : (s.setC w).i = s.i := rfl
@[simp] theorem State.setC_z (w : Bool) : (s.setC w).z = s.z := rfl
@[simp] theorem State.setC_c (w : Bool) : (s.setC w).c = w := rfl
@[simp] theorem State.setC_run (w : Bool) : (s.setC w).run = s.run := rfl
@[simp] theorem State.setC_last (w : Bool) : (s.setC w).last = s.last := rfl
@[simp] theorem State.setC_mem (w : Bool) : (s.setC w).mem = s.mem := rfl

@[simp] theorem State.setRun_a (w : Bool) : (s.setRun w).a = s.a := rfl
@[simp] theorem State.setRun_x (w : Bool) : (s.setRun w).x = s.x := rfl
@[simp] theorem State.setRun_y (w : Bool) : (s.setRun w).y = s.y := rfl
@[simp] theorem State.setRun_sp (w : Bool) : (s.setRun w).sp = s.sp := rfl
@[simp] theorem State.setRun_pc (w : Bool) : (s.setRun w).pc = s.pc := rfl
@[simp] theorem State.setRun_n (w : Bool) : (s.setRun w).n = s.n := rfl
@[simp] theorem State.setRun_v (w : Bool) : (s.setRun w).v = s.v := rfl
@[simp] theorem State.setRun_b (w : Bool) : (s.setRun w).b = s.b := rfl
@[simp] theorem State.setRun_d (w : Bool) : (s.setRun w).d = s.d := rfl
@[simp] theorem State.setRun_i (w : Bool) : (s.setRun w).i = s.i := rfl
@[simp] theorem State.setRun_z (w : Bool) : (s.setRun w).z = s.z := rfl
@[simp] theorem State.setRun_c (w : Bool) : (s.setRun w).c = s.c := rfl
@[simp] theorem State.setRun_run (w : Bool) : (s.setRun w).run = w := rfl
@[simp] theorem State.setRun_last (w : Bool) : (s.setRun w).last = s.last := rfl
@[simp] theorem State.setRun_mem (w : Bool) : (s.setRun w).mem = s.mem := rfl

@[simp] theorem State.setLast_a (w : Option Addr) : (s.setLast w).a = s.a := rfl
@[simp] theorem State.setLast_x (w : Option Addr) : (s.setLast w).x = s.x := rfl
@[simp] theorem State.setLast_y (w : Option Addr) : (s.setLast w).y = s.y := rfl
@[simp] theorem State.setLast_sp (w : Option Addr) : (s.setLast w).sp = s.sp := rfl
@[simp] theorem State.setLast_pc (w : Option Addr) : (s.setLast w).pc = s.pc := rfl
@[simp] theorem State.setLast_n (w : Option Addr) : (s.setLast w).n = s.n := rfl
@[simp] theorem State.setLast_v (w : Option Addr) : (s.setLast w).v = s.v := rfl
@[simp] theorem State.setLast_b (w : Option Addr) : (s.setLast w).b = s.b := rfl
@[simp] theorem State.setLast_d (w : Option Addr) : (s.setLast w).d = s.d := rfl
@[simp] theorem State.setLast_i (w : Option Addr) : (s.setLast w).i = s.i := rfl
@[simp] theorem State.setLast_z (w : Option Addr) : (s.setLast w).z = s.z := rfl
@[simp] theorem State.setLast_c (w : Option Addr) : (s.setLast w).c = s.c := rfl
@[simp] theorem State.setLast_run (w : Option Addr) : (s.setLast w).run = s.run := rfl
@[simp] theorem State.setLast_last (w : Option Addr) : (s.setLast w).last = w := rfl
@[simp] theorem State.setLast_mem (w : Option Addr) : (s.setLast w).mem = s.mem := rfl

@[simp] theorem State.setMem_a (w : Memory) : (s.setMem w).a = s.a := rfl
@[simp] theorem State.setMem_x (w : Memory) : (s.setMem w).x = s.x := rfl
@[simp] theorem State.setMem_y (w : Memory) : (s.setMem w).y = s.y := rfl
@[simp] theorem State.setMem_sp (w : Memory) : (s.setMem w).sp = s.sp := rfl
@[simp] theorem State.setMem_pc (w : Memory) : (s.setMem w).pc = s.pc := rfl
@[simp] theorem State.setMem_n (w : Memory) : (s.setMem w).n = s.n := rfl
@[simp] theorem State.setMem_v (w : Memory) : (s.setMem w).v = s.v := rfl
@[simp] theorem State.setMem_b (w : Memory) : (s.setMem w).b = s.b := rfl
@[simp] theorem State.setMem_d (w : Memory) : (s.setMem w).d = s.d := rfl
@[simp] theorem State.setMem_i (w : Memory) : (s.setMem w).i = s.i := rfl
@[simp] theorem State.setMem_z (w : Memory) : (s.setMem w).z = s.z := rfl
@[simp] theorem State.setMem_c (w : Memory) : (s.setMem w).c = s.c := rfl
@[simp] theorem State.setMem_run (w : Memory) : (s.setMem w).run = s.run := rfl
@[simp] theorem State.setMem_last (w : Memory) : (s.setMem w).last = s.last := rfl
@[simp] theorem State.setMem_mem (w : Memory) : (s.setMem w).mem = w := rfl

@[simp] theorem State.setZN_a (w : Byte) : (s.setZN w).a = s.a := rfl
@[simp] theorem State.setZN_x (w : Byte) : (s.setZN w).x = s.x := rfl
@[simp] theorem State.setZN_y (w : Byte) : (s.setZN w).y = s.y := rfl
@[simp] theorem State.setZN_sp (w : Byte) : (s.setZN w).sp = s.sp := rfl
@[simp] theorem State.setZN_pc (w : Byte) : (s.setZN w).pc = s.pc := rfl
@[simp] theorem State.setZN_n (w : Byte) : (s.setZN w).n = w.getLsbD 7 := rfl
@[simp] theorem State.setZN_v (w : Byte) : (s.setZN w).v = s.v := rfl
@[simp] theorem State.setZN_b (w : Byte) : (s.setZN w).b = s.b := rfl
@[simp] theorem State.setZN_d (w : Byte) : (s.setZN w).d = s.d := rfl
@[simp] theorem State.setZN_i (w : Byte) : (s.setZN w).i = s.i := rfl
@[simp] theorem State.setZN_z (w : Byte) : (s.setZN w).z = (w == 0) := rfl
@[simp] theorem State.setZN_c (w : Byte) : (s.setZN w).c = s.c := rfl
@[simp] theorem State.setZN_run (w : Byte) : (s.setZN w).run = s.run := rfl
@[simp] theorem State.setZN_last (w : Byte) : (s.setZN w).last = s.last := rfl
@[simp] theorem State.setZN_mem (w : Byte) : (s.setZN w).mem = s.mem := rfl

@[simp] theorem State.writeByte_a (a : Addr) (w : Byte) : (s.writeByte a w).a = s.a := rfl
@[simp] theorem State.writeByte_x (a : Addr) (w : Byte) : (s.writeByte a w).x = s.x := rfl
@[simp] theorem State.writeByte_y (a : Addr) (w : Byte) : (s.writeByte a w).y = s.y := rfl
@[simp] theorem State.writeByte_sp (a : Addr) (w : Byte) : (s.writeByte a w).sp = s.sp := rfl
@[simp] theorem State.writeByte_pc (a : Addr) (w : Byte) : (s.writeByte a w).pc = s.pc := rfl
@[simp] theorem State.writeByte_n (a : Addr) (w : Byte) : (s.writeByte a w).n = s.n := rfl
@[simp] theorem State.writeByte_v (a : Addr) (w : Byte) : (s.writeByte a w).v = s.v := rfl
@[simp] theorem State.writeByte_b (a : Addr) (w : Byte) : (s.writeByte a w).b = s.b := rfl
@[simp] theorem State.writeByte_d (a : Addr) (w : Byte) : (s.writeByte a w).d = s.d := rfl
@[simp] theorem State.writeByte_i (a : Addr) (w : Byte) : (s.writeByte a w).i = s.i := rfl
@[simp] theorem State.writeByte_z (a : Addr) (w : Byte) : (s.writeByte a w).z = s.z := rfl
@[simp] theorem State.writeByte_c (a : Addr) (w : Byte) : (s.writeByte a w).c = s.c := rfl
@[simp] theorem State.writeByte_run (a : Addr) (w : Byte) : (s.writeByte a w).run = s.run := rfl
@[simp] theorem State.writeByte_last (a : Addr) (w : Byte) : (s.writeByte a w).last = s.last := rfl
@[simp] theorem State.writeByte_mem (a : Addr) (w : Byte) : (s.writeByte a w).mem = s.mem.write a.toNat w := rfl

@[simp] theorem State.push_a (w : Byte) : (s.push w).a = s.a := rfl
@[simp] theorem State.push_x (w : Byte) : (s.push w).x = s.x := rfl
@[simp] theorem State.push_y (w : Byte) : (s.push w).y = s.y := rfl
@[simp] theorem State.push_sp (w : Byte) : (s.push w).sp = s.sp - 1 := rfl
@[simp] theorem State.push_pc (w : Byte) : (s.push w).pc = s.pc := rfl
@[simp] theorem State.push_n (w : Byte) : (s.push w).n = s.n := rfl
@[simp] theorem State.push_v (w : Byte) : (s.push w).v = s.v := rfl
@[simp] theorem State.push_b (w : Byte) : (s.push w).b = s.b := rfl
@[simp] theorem State.push_d (w : Byte) : (s.push w).d = s.d := rfl
@[simp] theorem State.push_i (w : Byte) : (s.push w).i = s.i := rfl
@[simp] theorem State.push_z (w : Byte) : (s.push w).z = s.z := rfl
@[simp] theorem State.push_c (w : Byte) : (s.push w).c = s.c := rfl
@[simp] theorem State.push_run (w : Byte) : (s.push w).run = s.run := rfl
@[simp] theorem State.push_last (w : Byte) : (s.push w).last = s.last := rfl
@[simp] theorem State.push_mem (w : Byte) : (s.push w).mem = s.mem.write (stackAddr s.sp).toNat w := rfl

end Sys2Proof.Machine
end

