-- ==== Sys2Proof/Laws/Memory.lean ====
section
/-! SUPPORT. Laws of the memory list: reading after writing, and that every operation keeps the canonical form. -/

namespace Sys2Proof.Machine

open Sys2Proof

theorem Memory.read_erase_same (m : Memory) (a : Nat) : (Memory.erase m a).read a = Memory.unlisted := by
  induction m with
  | nil => rfl
  | cons c rest ih =>
    obtain ⟨k, w⟩ := c
    by_cases h : k = a
    · simpa [Memory.erase, h] using ih
    · simpa [Memory.erase, h, Memory.read] using ih

theorem Memory.read_erase_other (m : Memory) {a k : Nat} (h : k ≠ a) : (Memory.erase m a).read k = m.read k := by
  induction m with
  | nil => rfl
  | cons c rest ih =>
    obtain ⟨j, w⟩ := c
    by_cases hj : j = a
    · simpa [Memory.erase, hj, Memory.read, Ne.symm h] using ih
    · by_cases hk : j = k
      · simp [Memory.erase, hk, h, Memory.read]
      · simpa [Memory.erase, hj, Memory.read, hk] using ih

theorem Memory.read_insert_same (m : Memory) (a : Nat) (w : Byte) : (Memory.insert m a w).read a = w := by
  induction m with
  | nil => simp [Memory.insert, Memory.read]
  | cons c rest ih =>
    obtain ⟨k, u⟩ := c
    simp only [Memory.insert]
    split
    · simp [Memory.read]
    · split
      · simp [Memory.read]
      · have : k ≠ a := by omega
        simpa [Memory.read, this] using ih

theorem Memory.read_insert_other (m : Memory) {a k : Nat} (w : Byte) (h : k ≠ a) :
    (Memory.insert m a w).read k = m.read k := by
  induction m with
  | nil => simp [Memory.insert, Memory.read, Ne.symm h]
  | cons c rest ih =>
    obtain ⟨j, u⟩ := c
    simp only [Memory.insert]
    split
    · simp [Memory.read, Ne.symm h]
    · split
      · subst_vars
        simp [Memory.read, Ne.symm h]
      · by_cases hk : j = k
        · simp [Memory.read, hk]
        · simpa [Memory.read, hk] using ih

/-- A read of the written address gives the byte written. -/
theorem Memory.read_write_same (m : Memory) (a : Nat) (w : Byte) : (m.write a w).read a = w := by
  unfold Memory.write
  split
  · rw [Memory.read_erase_same]
    exact Eq.symm ‹_›
  · exact Memory.read_insert_same m a w

/-- A write leaves every other address alone. -/
theorem Memory.read_write_other (m : Memory) {a k : Nat} (w : Byte) (h : k ≠ a) : (m.write a w).read k = m.read k := by
  unfold Memory.write
  split
  · exact Memory.read_erase_other m h
  · exact Memory.read_insert_other m w h

theorem Memory.wfFrom_mono {lo lo' : Nat} {m : Memory} (h : lo' ≤ lo) (hm : Memory.wfFrom lo m = true) :
    Memory.wfFrom lo' m = true := by
  cases m with
  | nil => rfl
  | cons c rest =>
    obtain ⟨k, w⟩ := c
    simp only [Memory.wfFrom, Bool.and_eq_true, decide_eq_true_eq] at hm ⊢
    exact ⟨⟨⟨by omega, hm.1.1.2⟩, hm.1.2⟩, hm.2⟩

theorem Memory.wfFrom_erase {lo : Nat} {m : Memory} (a : Nat) (hm : Memory.wfFrom lo m = true) :
    Memory.wfFrom lo (Memory.erase m a) = true := by
  induction m generalizing lo with
  | nil => rfl
  | cons c rest ih =>
    obtain ⟨k, w⟩ := c
    simp only [Memory.wfFrom, Bool.and_eq_true, decide_eq_true_eq] at hm
    have hrest := ih hm.2
    by_cases h : k = a
    · have := Memory.wfFrom_mono (show lo ≤ k + 1 by omega) hrest
      simpa [Memory.erase, h] using this
    · have : Memory.erase ((k, w) :: rest) a = (k, w) :: Memory.erase rest a := by simp [Memory.erase, h]
      rw [this]
      simp only [Memory.wfFrom, Bool.and_eq_true, decide_eq_true_eq]
      exact ⟨hm.1, hrest⟩

theorem Memory.wfFrom_insert {lo : Nat} {m : Memory} {a : Nat} {w : Byte} (hlo : lo ≤ a) (ha : a < 65536)
    (hw : w ≠ Memory.unlisted) (hm : Memory.wfFrom lo m = true) : Memory.wfFrom lo (Memory.insert m a w) = true := by
  induction m generalizing lo with
  | nil => simp [Memory.insert, Memory.wfFrom, hlo, ha, hw]
  | cons c rest ih =>
    obtain ⟨k, u⟩ := c
    simp only [Memory.wfFrom, Bool.and_eq_true, decide_eq_true_eq] at hm
    simp only [Memory.insert]
    split
    · simp only [Memory.wfFrom, Bool.and_eq_true, decide_eq_true_eq]
      exact ⟨⟨⟨hlo, ha⟩, by simpa using hw⟩, ⟨⟨by omega, hm.1.1.2⟩, hm.1.2⟩, hm.2⟩
    · split
      · subst_vars
        simp only [Memory.wfFrom, Bool.and_eq_true, decide_eq_true_eq]
        exact ⟨⟨⟨hlo, ha⟩, by simpa using hw⟩, hm.2⟩
      · simp only [Memory.wfFrom, Bool.and_eq_true, decide_eq_true_eq]
        exact ⟨hm.1, ih (by omega) hm.2⟩

/-- A write inside the array keeps the canonical form. -/
theorem Memory.wf_write {m : Memory} {a : Nat} (w : Byte) (ha : a < 65536) (hm : m.wf = true) :
    (m.write a w).wf = true := by
  unfold Memory.write
  split
  · exact Memory.wfFrom_erase a hm
  · exact Memory.wfFrom_insert (Nat.zero_le a) ha ‹_› hm

/-- Below its first listed address a canonical memory reads the unlisted byte. -/
theorem Memory.read_below {lo a : Nat} {m : Memory} (hm : Memory.wfFrom lo m = true) (ha : a < lo) :
    m.read a = Memory.unlisted := by
  induction m generalizing lo with
  | nil => rfl
  | cons c rest ih =>
    obtain ⟨k, w⟩ := c
    simp only [Memory.wfFrom, Bool.and_eq_true, decide_eq_true_eq] at hm
    have hk : k ≠ a := by omega
    rw [Memory.read, if_neg hk]
    exact ih hm.2 (by omega)

theorem Memory.wfFrom_ext {lo : Nat} {m m' : Memory} (hm : Memory.wfFrom lo m = true) (hm' : Memory.wfFrom lo m' = true)
    (h : ∀ a, m.read a = m'.read a) : m = m' := by
  induction m generalizing lo m' with
  | nil =>
    cases m' with
    | nil => rfl
    | cons c rest =>
      obtain ⟨k, w⟩ := c
      simp only [Memory.wfFrom, Bool.and_eq_true, bne_iff_ne] at hm'
      exact absurd (by simpa [Memory.read] using (h k).symm) hm'.1.2
  | cons c rest ih =>
    obtain ⟨k, w⟩ := c
    have hm1 := hm
    simp only [Memory.wfFrom, Bool.and_eq_true, decide_eq_true_eq, bne_iff_ne] at hm
    cases m' with
    | nil => exact absurd (by simpa [Memory.read] using h k) hm.1.2
    | cons c' rest' =>
      obtain ⟨k', w'⟩ := c'
      have hm2 := hm'
      simp only [Memory.wfFrom, Bool.and_eq_true, decide_eq_true_eq, bne_iff_ne] at hm'
      have hkk : k = k' := by
        rcases Nat.lt_trichotomy k k' with hlt | heq | hgt
        · have h1 := Memory.read_below (lo := k' + 1) hm'.2 (show k < k' + 1 by omega)
          have h2 := h k
          rw [Memory.read, if_pos rfl, Memory.read, if_neg (by omega), h1] at h2
          exact absurd h2 hm.1.2
        · exact heq
        · have h1 := Memory.read_below (lo := k + 1) hm.2 (show k' < k + 1 by omega)
          have h2 := h k'
          rw [Memory.read, if_neg (by omega), h1, Memory.read, if_pos rfl] at h2
          exact absurd h2.symm hm'.1.2
      subst hkk
      have hw : w = w' := by simpa [Memory.read] using h k
      subst hw
      congr 1
      refine ih hm.2 hm'.2 fun a => ?_
      by_cases ha : a = k
      · subst ha
        rw [Memory.read_below hm.2 (by omega), Memory.read_below hm'.2 (by omega)]
      · simpa [Memory.read, Ne.symm ha] using h a

/-- In the canonical form equal contents are equal lists. -/
theorem Memory.ext_of_wf {m m' : Memory} (hm : m.wf = true) (hm' : m'.wf = true) (h : ∀ a, m.read a = m'.read a) :
    m = m' := Memory.wfFrom_ext hm hm' h

/-! The operations of the machine on its memory. -/

theorem State.writeByte_wf {s : State} (a : Addr) (w : Byte) (h : s.mem.wf = true) : (s.writeByte a w).mem.wf = true :=
  Memory.wf_write w a.isLt h

theorem State.push_wf {s : State} (w : Byte) (h : s.mem.wf = true) : (s.push w).mem.wf = true :=
  State.writeByte_wf _ w h

theorem State.storeBytes_wf {s : State} (a : Addr) (bytes : List Byte) (h : s.mem.wf = true) :
    (s.storeBytes a bytes).mem.wf = true := by
  induction bytes generalizing s a with
  | nil => exact h
  | cons w rest ih => exact ih (a + 1) (State.writeByte_wf a w h)

/-- What stored bytes read as, when they do not run past the top of memory; every other byte is as it was. -/
theorem State.readByte_storeBytes (s : State) (a k : Addr) (bytes : List Byte) (h : a.toNat + bytes.length ≤ 65536) :
    (s.storeBytes a bytes).readByte k =
      if a.toNat ≤ k.toNat ∧ k.toNat < a.toNat + bytes.length then bytes.getD (k.toNat - a.toNat) 0x00
      else s.readByte k := by
  induction bytes generalizing s a with
  | nil =>
    rw [if_neg (by rintro ⟨h1, h2⟩; simp only [List.length_nil] at h2; omega)]
    rfl
  | cons w rest ih =>
    simp only [List.length_cons] at h ⊢
    have hw : (s.writeByte a w).readByte k = if k = a then w else s.readByte k := by
      split
      · rename_i e
        subst e
        exact Memory.read_write_same s.mem _ w
      · exact Memory.read_write_other s.mem w fun e => ‹¬k = a› (BitVec.eq_of_toNat_eq e)
    rw [State.storeBytes]
    cases rest with
    | nil =>
      rw [State.storeBytes, hw]
      by_cases hk : k = a
      · subst hk
        simp
      · have : k.toNat ≠ a.toNat := fun e => hk (BitVec.eq_of_toNat_eq e)
        rw [if_neg hk, if_neg (by simp; omega)]
    | cons u rest =>
      simp only [List.length_cons] at h ih ⊢
      have ha : (a + 1).toNat = a.toNat + 1 := by rw [BitVec.toNat_add]; simp; omega
      rw [ih _ _ (by omega), ha, hw]
      by_cases hk : k = a
      · subst hk
        rw [if_neg (by omega), if_pos rfl, if_pos (by omega)]
        simp
      · have hne : k.toNat ≠ a.toNat := fun e => hk (BitVec.eq_of_toNat_eq e)
        rw [if_neg hk]
        by_cases hin : a.toNat + 1 ≤ k.toNat ∧ k.toNat < a.toNat + 1 + (rest.length + 1)
        · obtain ⟨j, hj⟩ : ∃ j, k.toNat - a.toNat = j + 1 := ⟨k.toNat - a.toNat - 1, by omega⟩
          rw [if_pos hin, if_pos (by omega), hj, show k.toNat - (a.toNat + 1) = j by omega]
          rfl
        · rw [if_neg hin, if_neg (by omega)]

theorem State.hostReset_wf {s : State} (h : s.mem.wf = true) : s.hostReset.mem.wf = true := h

theorem State.placeInstr_wf {s : State} (nbits w : Nat) (h : s.mem.wf = true) : (s.placeInstr nbits w).mem.wf = true :=
  State.storeBytes_wf _ _ h

theorem State.launch_wf (image : List Byte) : (State.launch image).mem.wf = true :=
  State.storeBytes_wf codeOrigin _ rfl

theorem State.setButtonPin_wf {s : State} (g : Config.GpioBinding) (pressed : Bool) (h : s.mem.wf = true) :
    (s.setButtonPin g pressed).mem.wf = true := by
  unfold State.setButtonPin
  split
  · exact h
  · exact State.writeByte_wf _ _ h

theorem State.reset_wf : State.reset.mem.wf = true := rfl

end Sys2Proof.Machine
end

