-- ==== Sys2Proof/Laws/Ops.lean ====
section
/-! SUPPORT. What each shared operation can do, once: the resolver, the exception and reset, the operations of each
family, fetching and the step. Proofs cite these instead of unfolding the operations. -/

namespace Sys2Proof.Machine

open Sys2Proof

/-! The resolver writes `PC` and `LAST` only. -/

section
variable (s : State) (o : Operand)

@[simp] theorem State.resolve_a : (s.resolve o).a = s.a := by unfold State.resolve; split <;> rfl
@[simp] theorem State.resolve_x : (s.resolve o).x = s.x := by unfold State.resolve; split <;> rfl
@[simp] theorem State.resolve_y : (s.resolve o).y = s.y := by unfold State.resolve; split <;> rfl
@[simp] theorem State.resolve_sp : (s.resolve o).sp = s.sp := by unfold State.resolve; split <;> rfl
@[simp] theorem State.resolve_n : (s.resolve o).n = s.n := by unfold State.resolve; split <;> rfl
@[simp] theorem State.resolve_v : (s.resolve o).v = s.v := by unfold State.resolve; split <;> rfl
@[simp] theorem State.resolve_b : (s.resolve o).b = s.b := by unfold State.resolve; split <;> rfl
@[simp] theorem State.resolve_d : (s.resolve o).d = s.d := by unfold State.resolve; split <;> rfl
@[simp] theorem State.resolve_i : (s.resolve o).i = s.i := by unfold State.resolve; split <;> rfl
@[simp] theorem State.resolve_z : (s.resolve o).z = s.z := by unfold State.resolve; split <;> rfl
@[simp] theorem State.resolve_c : (s.resolve o).c = s.c := by unfold State.resolve; split <;> rfl
@[simp] theorem State.resolve_run : (s.resolve o).run = s.run := by unfold State.resolve; split <;> rfl
@[simp] theorem State.resolve_mem : (s.resolve o).mem = s.mem := by unfold State.resolve; split <;> rfl

@[simp] theorem State.resolve_pc : (s.resolve o).pc = s.pc + BitVec.ofNat 16 o.length := by
  unfold State.resolve; split <;> rfl

theorem State.resolve_last : (s.resolve o).last = (match effAddr o s with | some ea => some ea | none => s.last) := by
  unfold State.resolve; split <;> simp_all

theorem State.resolve_eq :
    s.resolve o = { s with pc := s.pc + BitVec.ofNat 16 o.length,
                           last := match effAddr o s with | some ea => some ea | none => s.last } := by
  cases o <;> rfl

end

/-! Reading bytes. -/

@[simp] theorem State.readByte_writeByte_same (s : State) (a : Addr) (w : Byte) : (s.writeByte a w).mem.read a.toNat = w :=
  Memory.read_write_same s.mem a.toNat w

theorem State.readByte_writeByte_other (s : State) {a k : Addr} (w : Byte) (h : k ≠ a) :
    (s.writeByte a w).readByte k = s.readByte k :=
  Memory.read_write_other s.mem w fun e => h (BitVec.eq_of_toNat_eq e)

/-- A byte is read from the memory alone. -/
theorem State.readByte_congr {s t : State} (h : t.mem = s.mem) (a : Addr) : t.readByte a = s.readByte a := by
  unfold State.readByte; rw [h]

/-- An effective address depends on `X`, `Y` and memory only. -/
theorem memAddr_congr {s t : State} (hx : t.x = s.x) (hy : t.y = s.y) (hm : t.mem = s.mem) (m : MemOperand) :
    memAddr m t = memAddr m s := by
  cases m <;> simp only [memAddr, State.readWord, State.readByte, hx, hy, hm]

/-- A source has a value, which is that of its operand. -/
theorem operandValue_source (src : Source) (s : State) : operandValue src.operand s = some (sourceValue src s) := by
  cases src <;> rfl

/-- A target has a value, which is that of its operand. -/
theorem operandValue_target (t : Target) (s : State) : operandValue t.operand s = some (targetValue t s) := by
  cases t <;> rfl

/-! The operations of the families, each as one update of the resolved state. -/

section
variable (src : Source) (m : MemOperand) (s : State)

theorem loadA_eq : loadA src s = { s.resolve src.operand with a := sourceValue src s, z := sourceValue src s == 0, n := (sourceValue src s).getLsbD 7 } := rfl

theorem loadX_eq : loadX src s = { s.resolve src.operand with x := sourceValue src s, z := sourceValue src s == 0, n := (sourceValue src s).getLsbD 7 } := rfl

theorem loadY_eq : loadY src s = { s.resolve src.operand with y := sourceValue src s, z := sourceValue src s == 0, n := (sourceValue src s).getLsbD 7 } := rfl

theorem storeByte_eq (w : Byte) : storeByte m w s = { s.resolve (.mem m) with mem := s.mem.write (memAddr m s).toNat w } := by
  simp [storeByte, State.writeByte, State.setMem]

theorem addToA_eq (w : Byte) :
    s.addToA w = { s with
      a := narrow (sumOf s.a w s.c), c := carryOut (sumOf s.a w s.c), v := overflow s.a w (narrow (sumOf s.a w s.c)),
      z := narrow (sumOf s.a w s.c) == 0, n := (narrow (sumOf s.a w s.c)).getLsbD 7 } := rfl

theorem compareWith_eq (reg : Byte) :
    compareWith reg src s = { s.resolve src.operand with
      c := decide ((sourceValue src s).toNat ≤ reg.toNat), z := reg - sourceValue src s == 0,
      n := (reg - sourceValue src s).getLsbD 7 } := rfl

theorem logicResult_eq (r : Byte) :
    logicResult src r s = { s.resolve src.operand with a := r, z := r == 0, n := r.getLsbD 7 } := rfl

theorem branch_eq (cond : Bool) (off : Byte) :
    branch cond off s = { s with pc := if cond then s.pc + 2 + sext16 off else s.pc + 2, last := none } := rfl

theorem jumpTo_eq (o : Operand) (target : Addr) : jumpTo o target s = { s with pc := target, last := none } := by
  simp [jumpTo, State.resolve_eq, State.setPc, State.setLast]

end

/-! The exception, reset and the step. -/

theorem State.raiseInvalidOpcode_eq (s : State) : s.raiseInvalidOpcode = { s with pc := s.pc + 1, run := false } := rfl

/-- Every instruction answers a next state. -/
theorem exec_next (i : Instr) (s : State) : ∃ t, exec i s = .next t := by
  cases i <;> exact ⟨_, rfl⟩

/-- Fetching depends on the opcode byte's form alone; the three bytes are never too few. -/
theorem fetchInstr_eq (s : State) :
    fetchInstr s = match opcodeForm (s.readByte s.pc) with
      | none => .error (.invalidOpcode (s.readByte s.pc))
      | some (.f1 i) => .ok i
      | some (.f2 mk) => .ok (mk (s.readByte (s.pc + 1)))
      | some (.f3 mk) => .ok (mk (wordOf (s.readByte (s.pc + 1)) (s.readByte (s.pc + 2)))) := by
  simp only [fetchInstr, fetchBytes, decode]
  cases opcodeForm (s.readByte s.pc) with
  | none => rfl
  | some f => cases f <;> rfl

/-- A fetch fails exactly on an opcode byte that the table lacks. -/
theorem fetchInstr_error_iff (s : State) : (∃ e, fetchInstr s = .error e) ↔ opcodeForm (s.readByte s.pc) = none := by
  rw [fetchInstr_eq]
  cases opcodeForm (s.readByte s.pc) with
  | none => simp
  | some f => cases f <;> simp

/-- Everything a step can do. -/
theorem step_cases {s t : State} (h : step s = .next t) :
    (s.run = false ∧ t = s) ∨ (s.run = true ∧ ∃ i, fetchInstr s = .ok i ∧ exec i s = .next t) ∨
    (s.run = true ∧ opcodeForm (s.readByte s.pc) = none ∧ t = s.raiseInvalidOpcode) := by
  unfold step at h
  cases hr : s.run with
  | false =>
    rw [hr] at h
    exact .inl ⟨rfl, (Host.Outcome.next.inj h).symm⟩
  | true =>
    rw [hr] at h
    cases hf : fetchInstr s with
    | ok i =>
      rw [hf] at h
      exact .inr (.inl ⟨rfl, i, rfl, h⟩)
    | error e =>
      rw [hf] at h
      exact .inr (.inr ⟨rfl, (fetchInstr_error_iff s).mp ⟨e, hf⟩, (Host.Outcome.next.inj h).symm⟩)

end Sys2Proof.Machine
end

