-- ==== Sys2Proof/Laws/Exec.lean ====
section
/-! SUPPORT. What `exec` can do, once: the 151 rows run 57 operations, one per mnemonic (two for JMP), chosen by mnemonic
and operand ("handlers are grouped by mnemonic family, not one clone per opcode", 40_step_and_addressing.md R142). A
proof about every instruction is a case analysis of `Runs` instead of one of `Instr`. -/

namespace Sys2Proof.Machine

open Sys2Proof

/-- `Runs s m o t`: the mnemonic `m` on the operand `o` leads from `s` to `t`. -/
inductive Runs (s : State) : Mnemonic → Operand → State → Prop where
  | lda (src : Source) : Runs s .lda src.operand (loadA src s)
  | ldx (src : Source) : Runs s .ldx src.operand (loadX src s)
  | ldy (src : Source) : Runs s .ldy src.operand (loadY src s)
  | sta (m : MemOperand) : Runs s .sta (.mem m) (storeByte m s.a s)
  | stx (m : MemOperand) : Runs s .stx (.mem m) (storeByte m s.x s)
  | sty (m : MemOperand) : Runs s .sty (.mem m) (storeByte m s.y s)
  | adc (src : Source) : Runs s .adc src.operand (addCarry src s)
  | sbc (src : Source) : Runs s .sbc src.operand (subCarry src s)
  | cmp (src : Source) : Runs s .cmp src.operand (compareWith s.a src s)
  | cpx (src : Source) : Runs s .cpx src.operand (compareWith s.x src s)
  | cpy (src : Source) : Runs s .cpy src.operand (compareWith s.y src s)
  | inc (m : MemOperand) : Runs s .inc (.mem m) (increment m s)
  | dec (m : MemOperand) : Runs s .dec (.mem m) (decrement m s)
  | inx : Runs s .inx .imp (setXFlags (s.x + 1) s)
  | iny : Runs s .iny .imp (setYFlags (s.y + 1) s)
  | dex : Runs s .dex .imp (setXFlags (s.x - 1) s)
  | dey : Runs s .dey .imp (setYFlags (s.y - 1) s)
  | and (src : Source) : Runs s .and src.operand (andA src s)
  | ora (src : Source) : Runs s .ora src.operand (orA src s)
  | eor (src : Source) : Runs s .eor src.operand (eorA src s)
  | asl (t : Target) : Runs s .asl t.operand (shiftLeft t s)
  | lsr (t : Target) : Runs s .lsr t.operand (shiftRight t s)
  | bcc (off : Byte) : Runs s .bcc (.rel off) (branch (!s.c) off s)
  | bcs (off : Byte) : Runs s .bcs (.rel off) (branch (s.c) off s)
  | beq (off : Byte) : Runs s .beq (.rel off) (branch (s.z) off s)
  | bne (off : Byte) : Runs s .bne (.rel off) (branch (!s.z) off s)
  | bmi (off : Byte) : Runs s .bmi (.rel off) (branch (s.n) off s)
  | bpl (off : Byte) : Runs s .bpl (.rel off) (branch (!s.n) off s)
  | bvc (off : Byte) : Runs s .bvc (.rel off) (branch (!s.v) off s)
  | bvs (off : Byte) : Runs s .bvs (.rel off) (branch (s.v) off s)
  | jmpAbs (w : Addr) : Runs s .jmp (.mem (.abs w)) (jumpTo (.mem (.abs w)) w s)
  | jmpInd (w : Addr) : Runs s .jmp (.ind w) (jumpTo (.ind w) (s.readWord w) s)
  | jsr (w : Addr) : Runs s .jsr (.mem (.abs w)) (callSubroutine w s)
  | rts : Runs s .rts .imp (returnFromSubroutine s)
  | pha : Runs s .pha .imp (pushA s)
  | pla : Runs s .pla .imp (pullA s)
  | php : Runs s .php .imp (pushFlags s)
  | tax : Runs s .tax .imp (setXFlags s.a s)
  | tay : Runs s .tay .imp (setYFlags s.a s)
  | tsx : Runs s .tsx .imp (setXFlags s.sp s)
  | txa : Runs s .txa .imp (setAFlags s.x s)
  | txs : Runs s .txs .imp ((s.resolve .imp).setSp s.x)
  | tya : Runs s .tya .imp (setAFlags s.y s)
  | clc : Runs s .clc .imp ((s.resolve .imp).setC false)
  | sec : Runs s .sec .imp ((s.resolve .imp).setC true)
  | cli : Runs s .cli .imp ((s.resolve .imp).setI false)
  | sei : Runs s .sei .imp ((s.resolve .imp).setI true)
  | clv : Runs s .clv .imp ((s.resolve .imp).setV false)
  | cld : Runs s .cld .imp ((s.resolve .imp).setD false)
  | sed : Runs s .sed .imp ((s.resolve .imp).setD true)
  | nop : Runs s .nop .imp (s.resolve .imp)
  | brk : Runs s .brk .imp (consumeOperand .imp s)
  | plp : Runs s .plp .imp (consumeOperand .imp s)
  | rol (t : Target) : Runs s .rol t.operand (consumeOperand t.operand s)
  | ror (t : Target) : Runs s .ror t.operand (consumeOperand t.operand s)
  | rti : Runs s .rti .imp (consumeOperand .imp s)
  | bit (m : MemOperand) : Runs s .bit (.mem m) (consumeOperand (.mem m) s)

/-- Every instruction runs its mnemonic's operation on its operand. -/
theorem exec_runs (i : Instr) (s : State) : ∃ t, exec i s = .next t ∧ Runs s i.mnemonic i.operand t := by
  cases i with
  | ldaImm b => exact ⟨_, rfl, .lda (.imm b)⟩
  | ldaZp b => exact ⟨_, rfl, .lda (.mem (.zp b))⟩
  | ldaZpx b => exact ⟨_, rfl, .lda (.mem (.zpx b))⟩
  | ldaAbs w => exact ⟨_, rfl, .lda (.mem (.abs w))⟩
  | ldaAbsx w => exact ⟨_, rfl, .lda (.mem (.absx w))⟩
  | ldaAbsy w => exact ⟨_, rfl, .lda (.mem (.absy w))⟩
  | ldaIndx b => exact ⟨_, rfl, .lda (.mem (.indx b))⟩
  | ldaIndy b => exact ⟨_, rfl, .lda (.mem (.indy b))⟩
  | ldxImm b => exact ⟨_, rfl, .ldx (.imm b)⟩
  | ldxZp b => exact ⟨_, rfl, .ldx (.mem (.zp b))⟩
  | ldxZpy b => exact ⟨_, rfl, .ldx (.mem (.zpy b))⟩
  | ldxAbs w => exact ⟨_, rfl, .ldx (.mem (.abs w))⟩
  | ldxAbsy w => exact ⟨_, rfl, .ldx (.mem (.absy w))⟩
  | ldyImm b => exact ⟨_, rfl, .ldy (.imm b)⟩
  | ldyZp b => exact ⟨_, rfl, .ldy (.mem (.zp b))⟩
  | ldyZpx b => exact ⟨_, rfl, .ldy (.mem (.zpx b))⟩
  | ldyAbs w => exact ⟨_, rfl, .ldy (.mem (.abs w))⟩
  | ldyAbsx w => exact ⟨_, rfl, .ldy (.mem (.absx w))⟩
  | staZp b => exact ⟨_, rfl, .sta (.zp b)⟩
  | staZpx b => exact ⟨_, rfl, .sta (.zpx b)⟩
  | staAbs w => exact ⟨_, rfl, .sta (.abs w)⟩
  | staAbsx w => exact ⟨_, rfl, .sta (.absx w)⟩
  | staAbsy w => exact ⟨_, rfl, .sta (.absy w)⟩
  | staIndx b => exact ⟨_, rfl, .sta (.indx b)⟩
  | staIndy b => exact ⟨_, rfl, .sta (.indy b)⟩
  | stxZp b => exact ⟨_, rfl, .stx (.zp b)⟩
  | stxZpy b => exact ⟨_, rfl, .stx (.zpy b)⟩
  | stxAbs w => exact ⟨_, rfl, .stx (.abs w)⟩
  | styZp b => exact ⟨_, rfl, .sty (.zp b)⟩
  | styZpx b => exact ⟨_, rfl, .sty (.zpx b)⟩
  | styAbs w => exact ⟨_, rfl, .sty (.abs w)⟩
  | adcImm b => exact ⟨_, rfl, .adc (.imm b)⟩
  | adcZp b => exact ⟨_, rfl, .adc (.mem (.zp b))⟩
  | adcZpx b => exact ⟨_, rfl, .adc (.mem (.zpx b))⟩
  | adcAbs w => exact ⟨_, rfl, .adc (.mem (.abs w))⟩
  | adcAbsx w => exact ⟨_, rfl, .adc (.mem (.absx w))⟩
  | adcAbsy w => exact ⟨_, rfl, .adc (.mem (.absy w))⟩
  | adcIndx b => exact ⟨_, rfl, .adc (.mem (.indx b))⟩
  | adcIndy b => exact ⟨_, rfl, .adc (.mem (.indy b))⟩
  | sbcImm b => exact ⟨_, rfl, .sbc (.imm b)⟩
  | sbcZp b => exact ⟨_, rfl, .sbc (.mem (.zp b))⟩
  | sbcZpx b => exact ⟨_, rfl, .sbc (.mem (.zpx b))⟩
  | sbcAbs w => exact ⟨_, rfl, .sbc (.mem (.abs w))⟩
  | sbcAbsx w => exact ⟨_, rfl, .sbc (.mem (.absx w))⟩
  | sbcAbsy w => exact ⟨_, rfl, .sbc (.mem (.absy w))⟩
  | sbcIndx b => exact ⟨_, rfl, .sbc (.mem (.indx b))⟩
  | sbcIndy b => exact ⟨_, rfl, .sbc (.mem (.indy b))⟩
  | cmpImm b => exact ⟨_, rfl, .cmp (.imm b)⟩
  | cmpZp b => exact ⟨_, rfl, .cmp (.mem (.zp b))⟩
  | cmpZpx b => exact ⟨_, rfl, .cmp (.mem (.zpx b))⟩
  | cmpAbs w => exact ⟨_, rfl, .cmp (.mem (.abs w))⟩
  | cmpAbsx w => exact ⟨_, rfl, .cmp (.mem (.absx w))⟩
  | cmpAbsy w => exact ⟨_, rfl, .cmp (.mem (.absy w))⟩
  | cmpIndx b => exact ⟨_, rfl, .cmp (.mem (.indx b))⟩
  | cmpIndy b => exact ⟨_, rfl, .cmp (.mem (.indy b))⟩
  | cpxImm b => exact ⟨_, rfl, .cpx (.imm b)⟩
  | cpxZp b => exact ⟨_, rfl, .cpx (.mem (.zp b))⟩
  | cpxAbs w => exact ⟨_, rfl, .cpx (.mem (.abs w))⟩
  | cpyImm b => exact ⟨_, rfl, .cpy (.imm b)⟩
  | cpyZp b => exact ⟨_, rfl, .cpy (.mem (.zp b))⟩
  | cpyAbs w => exact ⟨_, rfl, .cpy (.mem (.abs w))⟩
  | incZp b => exact ⟨_, rfl, .inc (.zp b)⟩
  | incZpx b => exact ⟨_, rfl, .inc (.zpx b)⟩
  | incAbs w => exact ⟨_, rfl, .inc (.abs w)⟩
  | incAbsx w => exact ⟨_, rfl, .inc (.absx w)⟩
  | decZp b => exact ⟨_, rfl, .dec (.zp b)⟩
  | decZpx b => exact ⟨_, rfl, .dec (.zpx b)⟩
  | decAbs w => exact ⟨_, rfl, .dec (.abs w)⟩
  | decAbsx w => exact ⟨_, rfl, .dec (.absx w)⟩
  | inx => exact ⟨_, rfl, .inx⟩
  | iny => exact ⟨_, rfl, .iny⟩
  | dex => exact ⟨_, rfl, .dex⟩
  | dey => exact ⟨_, rfl, .dey⟩
  | andImm b => exact ⟨_, rfl, .and (.imm b)⟩
  | andZp b => exact ⟨_, rfl, .and (.mem (.zp b))⟩
  | andZpx b => exact ⟨_, rfl, .and (.mem (.zpx b))⟩
  | andAbs w => exact ⟨_, rfl, .and (.mem (.abs w))⟩
  | andAbsx w => exact ⟨_, rfl, .and (.mem (.absx w))⟩
  | andAbsy w => exact ⟨_, rfl, .and (.mem (.absy w))⟩
  | andIndx b => exact ⟨_, rfl, .and (.mem (.indx b))⟩
  | andIndy b => exact ⟨_, rfl, .and (.mem (.indy b))⟩
  | oraImm b => exact ⟨_, rfl, .ora (.imm b)⟩
  | oraZp b => exact ⟨_, rfl, .ora (.mem (.zp b))⟩
  | oraZpx b => exact ⟨_, rfl, .ora (.mem (.zpx b))⟩
  | oraAbs w => exact ⟨_, rfl, .ora (.mem (.abs w))⟩
  | oraAbsx w => exact ⟨_, rfl, .ora (.mem (.absx w))⟩
  | oraAbsy w => exact ⟨_, rfl, .ora (.mem (.absy w))⟩
  | oraIndx b => exact ⟨_, rfl, .ora (.mem (.indx b))⟩
  | oraIndy b => exact ⟨_, rfl, .ora (.mem (.indy b))⟩
  | eorImm b => exact ⟨_, rfl, .eor (.imm b)⟩
  | eorZp b => exact ⟨_, rfl, .eor (.mem (.zp b))⟩
  | eorZpx b => exact ⟨_, rfl, .eor (.mem (.zpx b))⟩
  | eorAbs w => exact ⟨_, rfl, .eor (.mem (.abs w))⟩
  | eorAbsx w => exact ⟨_, rfl, .eor (.mem (.absx w))⟩
  | eorAbsy w => exact ⟨_, rfl, .eor (.mem (.absy w))⟩
  | eorIndx b => exact ⟨_, rfl, .eor (.mem (.indx b))⟩
  | eorIndy b => exact ⟨_, rfl, .eor (.mem (.indy b))⟩
  | aslAcc => exact ⟨_, rfl, .asl .acc⟩
  | aslZp b => exact ⟨_, rfl, .asl (.mem (.zp b))⟩
  | aslZpx b => exact ⟨_, rfl, .asl (.mem (.zpx b))⟩
  | aslAbs w => exact ⟨_, rfl, .asl (.mem (.abs w))⟩
  | aslAbsx w => exact ⟨_, rfl, .asl (.mem (.absx w))⟩
  | lsrAcc => exact ⟨_, rfl, .lsr .acc⟩
  | lsrZp b => exact ⟨_, rfl, .lsr (.mem (.zp b))⟩
  | lsrZpx b => exact ⟨_, rfl, .lsr (.mem (.zpx b))⟩
  | lsrAbs w => exact ⟨_, rfl, .lsr (.mem (.abs w))⟩
  | lsrAbsx w => exact ⟨_, rfl, .lsr (.mem (.absx w))⟩
  | bcc off => exact ⟨_, rfl, .bcc off⟩
  | bcs off => exact ⟨_, rfl, .bcs off⟩
  | beq off => exact ⟨_, rfl, .beq off⟩
  | bne off => exact ⟨_, rfl, .bne off⟩
  | bmi off => exact ⟨_, rfl, .bmi off⟩
  | bpl off => exact ⟨_, rfl, .bpl off⟩
  | bvc off => exact ⟨_, rfl, .bvc off⟩
  | bvs off => exact ⟨_, rfl, .bvs off⟩
  | jmpAbs w => exact ⟨_, rfl, .jmpAbs w⟩
  | jmpInd w => exact ⟨_, rfl, .jmpInd w⟩
  | jsr w => exact ⟨_, rfl, .jsr w⟩
  | rts => exact ⟨_, rfl, .rts⟩
  | pha => exact ⟨_, rfl, .pha⟩
  | pla => exact ⟨_, rfl, .pla⟩
  | php => exact ⟨_, rfl, .php⟩
  | tax => exact ⟨_, rfl, .tax⟩
  | tay => exact ⟨_, rfl, .tay⟩
  | tsx => exact ⟨_, rfl, .tsx⟩
  | txa => exact ⟨_, rfl, .txa⟩
  | txs => exact ⟨_, rfl, .txs⟩
  | tya => exact ⟨_, rfl, .tya⟩
  | clc => exact ⟨_, rfl, .clc⟩
  | sec => exact ⟨_, rfl, .sec⟩
  | cli => exact ⟨_, rfl, .cli⟩
  | sei => exact ⟨_, rfl, .sei⟩
  | clv => exact ⟨_, rfl, .clv⟩
  | cld => exact ⟨_, rfl, .cld⟩
  | sed => exact ⟨_, rfl, .sed⟩
  | nop => exact ⟨_, rfl, .nop⟩
  | brk => exact ⟨_, rfl, .brk⟩
  | plp => exact ⟨_, rfl, .plp⟩
  | rolAcc => exact ⟨_, rfl, .rol .acc⟩
  | rolZp b => exact ⟨_, rfl, .rol (.mem (.zp b))⟩
  | rolZpx b => exact ⟨_, rfl, .rol (.mem (.zpx b))⟩
  | rolAbs w => exact ⟨_, rfl, .rol (.mem (.abs w))⟩
  | rolAbsx w => exact ⟨_, rfl, .rol (.mem (.absx w))⟩
  | rorAcc => exact ⟨_, rfl, .ror .acc⟩
  | rorZp b => exact ⟨_, rfl, .ror (.mem (.zp b))⟩
  | rorZpx b => exact ⟨_, rfl, .ror (.mem (.zpx b))⟩
  | rorAbs w => exact ⟨_, rfl, .ror (.mem (.abs w))⟩
  | rorAbsx w => exact ⟨_, rfl, .ror (.mem (.absx w))⟩
  | rti => exact ⟨_, rfl, .rti⟩
  | bitZp b => exact ⟨_, rfl, .bit (.zp b)⟩
  | bitAbs w => exact ⟨_, rfl, .bit (.abs w)⟩

/-- The inversion of `exec`: a next state it answers is one that `Runs` describes. -/
theorem runs_of_exec {i : Instr} {s t : State} (h : exec i s = .next t) : Runs s i.mnemonic i.operand t := by
  obtain ⟨t', ht', hr⟩ := exec_runs i s
  rw [h] at ht'
  cases ht'
  exact hr

/-- What an instruction does to memory: it writes the bytes of `storedBytes`, in their order, and no other. -/
theorem exec_mem {i : Instr} {s t : State} (h : exec i s = .next t) :
    t.mem = (storedBytes i s).foldl (fun m c => m.write c.1.toNat c.2) s.mem := by
  have hr := runs_of_exec h
  unfold storedBytes
  clear h
  generalize i.mnemonic = m at *
  generalize i.operand = o at *
  cases hr
  case asl tg =>
    cases tg <;> simp [shiftLeft, writeBack, storedAt, Target.operand, State.writeByte, targetValue, State.readByte]
  case lsr tg =>
    cases tg <;> simp [shiftRight, writeBack, storedAt, Target.operand, State.writeByte, targetValue, State.readByte]
  case jsr w =>
    simp [callSubroutine, State.push, State.writeByte]
    rfl
  all_goals
    simp [storedAt, loadA, loadX, loadY, storeByte, addCarry, subCarry, State.addToA, compareWith, State.setCompare,
      increment, decrement, setXFlags, setYFlags, setAFlags, andA, orA, eorA, logicResult, branch, jumpTo,
      returnFromSubroutine, State.pullRest, pushA, pullA, pushFlags, consumeOperand, State.push, State.writeByte,
      State.readByte]

end Sys2Proof.Machine
end

