-- ==== Sys2Proof/Tests/Slice0.lean ====
section
/-! SUPPORT. Tests of the model. Expected results are those of 95_test_vectors.md (the row's name stands in the test's
name), of the encoding examples in 30_encoding.md R130, or worked out by hand from the rule named. Each test is one
step, one decoding or one host call. The last part gives, for every obligation with hypotheses, a named witness. -/

namespace Sys2Proof.Tests

open Sys2Proof Sys2Proof.Machine

/-- Bytes written one by one at the addresses named. -/
def poke (s : State) (cells : List (Addr × Byte)) : State := cells.foldl (fun u c => u.writeByte c.1 c.2) s

/-- The base state of 95_test_vectors.md with `PC`, an instruction's bytes at `PC`, and further bytes of memory. -/
def startState (pc : Addr) (bytes : List Byte) (cells : List (Addr × Byte)) : State :=
  poke (({ State.reset with pc := pc }).storeBytes pc bytes) cells

/-- One step has the result named and leads to the start state changed as named and in nothing else. -/
def stepIs (s : State) (r : StepResult) (change : State → State) (cells : List (Addr × Byte)) : Bool :=
  match step s with
  | .next t => decide (t = poke (change s) cells) && decide (stepResult s = r)
  | _ => false

/-! Well-formedness. Each blank cell of 30_encoding.md R111 tried is refused; 151 cells are filled. -/

/-- The 13 modes. -/
def allModes : List Mode := [.imp, .acc, .imm, .zp, .zpx, .zpy, .abs, .absx, .absy, .ind, .indx, .indy, .rel]

theorem test_illFormed_stores : legalPair .sta (.imm 0x10) = false ∧ legalPair .stx (.mem (.absy 0x1234)) = false ∧
    legalPair .stx (.mem (.zpx 0x10)) = false ∧ legalPair .sty (.mem (.absx 0x1234)) = false := by decide

theorem test_illFormed_loads : legalPair .ldx (.mem (.zpx 0x10)) = false ∧ legalPair .ldx (.mem (.absx 0x1234)) = false ∧
    legalPair .ldy (.mem (.zpy 0x10)) = false ∧ legalPair .lda (.mem (.zpy 0x10)) = false ∧ legalPair .lda .imp = false := by decide

theorem test_illFormed_arithmetic : legalPair .inc .acc = false ∧ legalPair .dec (.mem (.absy 0x1234)) = false ∧
    legalPair .cpx (.mem (.zpx 0x10)) = false ∧ legalPair .adc .acc = false ∧ legalPair .inx .acc = false := by decide

theorem test_illFormed_logic_shift : legalPair .asl (.mem (.indx 0x10)) = false ∧ legalPair .lsr (.imm 0x10) = false ∧
    legalPair .bit (.imm 0x10) = false ∧ legalPair .rol .imp = false ∧ legalPair .eor (.ind 0x1234) = false := by decide

theorem test_illFormed_control : legalPair .jmp (.mem (.zp 0x10)) = false ∧ legalPair .jsr (.ind 0x1234) = false ∧
    legalPair .bne (.mem (.abs 0x1234)) = false ∧ legalPair .brk (.imm 0x00) = false ∧ legalPair .rts (.rel 0x00) = false := by decide

/-! Decoding. Every row of the table of 30_encoding.md R111, written out from it: opcode byte, then the operand bytes in
memory order (R102, R103), decodes to the instruction it stands for with nothing left over. -/

/-- Each byte string decodes to the instruction beside it. -/
def decodesTo (l : List (List Byte × Instr)) : Bool :=
  l.all fun p => match decode p.1 with
    | .ok (i, rest) => i == p.2 && rest.isEmpty
    | .error _ => false

theorem test_decode_LoadStore : decodesTo [
    ([0xA9, 0x9A], .ldaImm 0x9A), ([0xA5, 0x9A], .ldaZp 0x9A), ([0xB5, 0x9A], .ldaZpx 0x9A), ([0xAD, 0x34, 0x12], .ldaAbs 0x1234),
    ([0xBD, 0x34, 0x12], .ldaAbsx 0x1234), ([0xB9, 0x34, 0x12], .ldaAbsy 0x1234), ([0xA1, 0x9A], .ldaIndx 0x9A), ([0xB1, 0x9A], .ldaIndy 0x9A),
    ([0xA2, 0x9A], .ldxImm 0x9A), ([0xA6, 0x9A], .ldxZp 0x9A), ([0xB6, 0x9A], .ldxZpy 0x9A), ([0xAE, 0x34, 0x12], .ldxAbs 0x1234),
    ([0xBE, 0x34, 0x12], .ldxAbsy 0x1234), ([0xA0, 0x9A], .ldyImm 0x9A), ([0xA4, 0x9A], .ldyZp 0x9A), ([0xB4, 0x9A], .ldyZpx 0x9A),
    ([0xAC, 0x34, 0x12], .ldyAbs 0x1234), ([0xBC, 0x34, 0x12], .ldyAbsx 0x1234), ([0x85, 0x9A], .staZp 0x9A), ([0x95, 0x9A], .staZpx 0x9A),
    ([0x8D, 0x34, 0x12], .staAbs 0x1234), ([0x9D, 0x34, 0x12], .staAbsx 0x1234), ([0x99, 0x34, 0x12], .staAbsy 0x1234), ([0x81, 0x9A], .staIndx 0x9A),
    ([0x91, 0x9A], .staIndy 0x9A), ([0x86, 0x9A], .stxZp 0x9A), ([0x96, 0x9A], .stxZpy 0x9A), ([0x8E, 0x34, 0x12], .stxAbs 0x1234),
    ([0x84, 0x9A], .styZp 0x9A), ([0x94, 0x9A], .styZpx 0x9A), ([0x8C, 0x34, 0x12], .styAbs 0x1234)] = true := by decide

theorem test_decode_Arithmetic : decodesTo [
    ([0x69, 0x9A], .adcImm 0x9A), ([0x65, 0x9A], .adcZp 0x9A), ([0x75, 0x9A], .adcZpx 0x9A), ([0x6D, 0x34, 0x12], .adcAbs 0x1234),
    ([0x7D, 0x34, 0x12], .adcAbsx 0x1234), ([0x79, 0x34, 0x12], .adcAbsy 0x1234), ([0x61, 0x9A], .adcIndx 0x9A), ([0x71, 0x9A], .adcIndy 0x9A),
    ([0xE9, 0x9A], .sbcImm 0x9A), ([0xE5, 0x9A], .sbcZp 0x9A), ([0xF5, 0x9A], .sbcZpx 0x9A), ([0xED, 0x34, 0x12], .sbcAbs 0x1234),
    ([0xFD, 0x34, 0x12], .sbcAbsx 0x1234), ([0xF9, 0x34, 0x12], .sbcAbsy 0x1234), ([0xE1, 0x9A], .sbcIndx 0x9A), ([0xF1, 0x9A], .sbcIndy 0x9A),
    ([0xC9, 0x9A], .cmpImm 0x9A), ([0xC5, 0x9A], .cmpZp 0x9A), ([0xD5, 0x9A], .cmpZpx 0x9A), ([0xCD, 0x34, 0x12], .cmpAbs 0x1234),
    ([0xDD, 0x34, 0x12], .cmpAbsx 0x1234), ([0xD9, 0x34, 0x12], .cmpAbsy 0x1234), ([0xC1, 0x9A], .cmpIndx 0x9A), ([0xD1, 0x9A], .cmpIndy 0x9A),
    ([0xE0, 0x9A], .cpxImm 0x9A), ([0xE4, 0x9A], .cpxZp 0x9A), ([0xEC, 0x34, 0x12], .cpxAbs 0x1234), ([0xC0, 0x9A], .cpyImm 0x9A),
    ([0xC4, 0x9A], .cpyZp 0x9A), ([0xCC, 0x34, 0x12], .cpyAbs 0x1234), ([0xE6, 0x9A], .incZp 0x9A), ([0xF6, 0x9A], .incZpx 0x9A),
    ([0xEE, 0x34, 0x12], .incAbs 0x1234), ([0xFE, 0x34, 0x12], .incAbsx 0x1234), ([0xC6, 0x9A], .decZp 0x9A), ([0xD6, 0x9A], .decZpx 0x9A),
    ([0xCE, 0x34, 0x12], .decAbs 0x1234), ([0xDE, 0x34, 0x12], .decAbsx 0x1234), ([0xE8], .inx), ([0xC8], .iny),
    ([0xCA], .dex), ([0x88], .dey)] = true := by decide

theorem test_decode_LogicShift : decodesTo [
    ([0x29, 0x9A], .andImm 0x9A), ([0x25, 0x9A], .andZp 0x9A), ([0x35, 0x9A], .andZpx 0x9A), ([0x2D, 0x34, 0x12], .andAbs 0x1234),
    ([0x3D, 0x34, 0x12], .andAbsx 0x1234), ([0x39, 0x34, 0x12], .andAbsy 0x1234), ([0x21, 0x9A], .andIndx 0x9A), ([0x31, 0x9A], .andIndy 0x9A),
    ([0x09, 0x9A], .oraImm 0x9A), ([0x05, 0x9A], .oraZp 0x9A), ([0x15, 0x9A], .oraZpx 0x9A), ([0x0D, 0x34, 0x12], .oraAbs 0x1234),
    ([0x1D, 0x34, 0x12], .oraAbsx 0x1234), ([0x19, 0x34, 0x12], .oraAbsy 0x1234), ([0x01, 0x9A], .oraIndx 0x9A), ([0x11, 0x9A], .oraIndy 0x9A),
    ([0x49, 0x9A], .eorImm 0x9A), ([0x45, 0x9A], .eorZp 0x9A), ([0x55, 0x9A], .eorZpx 0x9A), ([0x4D, 0x34, 0x12], .eorAbs 0x1234),
    ([0x5D, 0x34, 0x12], .eorAbsx 0x1234), ([0x59, 0x34, 0x12], .eorAbsy 0x1234), ([0x41, 0x9A], .eorIndx 0x9A), ([0x51, 0x9A], .eorIndy 0x9A),
    ([0x0A], .aslAcc), ([0x06, 0x9A], .aslZp 0x9A), ([0x16, 0x9A], .aslZpx 0x9A), ([0x0E, 0x34, 0x12], .aslAbs 0x1234),
    ([0x1E, 0x34, 0x12], .aslAbsx 0x1234), ([0x4A], .lsrAcc), ([0x46, 0x9A], .lsrZp 0x9A), ([0x56, 0x9A], .lsrZpx 0x9A),
    ([0x4E, 0x34, 0x12], .lsrAbs 0x1234), ([0x5E, 0x34, 0x12], .lsrAbsx 0x1234)] = true := by decide

theorem test_decode_Control : decodesTo [
    ([0x90, 0x9A], .bcc 0x9A), ([0xB0, 0x9A], .bcs 0x9A), ([0xF0, 0x9A], .beq 0x9A), ([0xD0, 0x9A], .bne 0x9A),
    ([0x30, 0x9A], .bmi 0x9A), ([0x10, 0x9A], .bpl 0x9A), ([0x50, 0x9A], .bvc 0x9A), ([0x70, 0x9A], .bvs 0x9A),
    ([0x4C, 0x34, 0x12], .jmpAbs 0x1234), ([0x6C, 0x34, 0x12], .jmpInd 0x1234), ([0x20, 0x34, 0x12], .jsr 0x1234), ([0x60], .rts)] = true := by decide

theorem test_decode_StackTransferFlag : decodesTo [
    ([0x48], .pha), ([0x68], .pla), ([0x08], .php), ([0xAA], .tax),
    ([0xA8], .tay), ([0xBA], .tsx), ([0x8A], .txa), ([0x9A], .txs),
    ([0x98], .tya), ([0x18], .clc), ([0x38], .sec), ([0x58], .cli),
    ([0x78], .sei), ([0xB8], .clv), ([0xD8], .cld), ([0xF8], .sed),
    ([0xEA], .nop)] = true := by decide

theorem test_decode_Inert : decodesTo [
    ([0x00], .brk), ([0x28], .plp), ([0x2A], .rolAcc), ([0x26, 0x9A], .rolZp 0x9A),
    ([0x36, 0x9A], .rolZpx 0x9A), ([0x2E, 0x34, 0x12], .rolAbs 0x1234), ([0x3E, 0x34, 0x12], .rolAbsx 0x1234), ([0x6A], .rorAcc),
    ([0x66, 0x9A], .rorZp 0x9A), ([0x76, 0x9A], .rorZpx 0x9A), ([0x6E, 0x34, 0x12], .rorAbs 0x1234), ([0x7E, 0x34, 0x12], .rorAbsx 0x1234),
    ([0x40], .rti), ([0x24, 0x9A], .bitZp 0x9A), ([0x2C, 0x34, 0x12], .bitAbs 0x1234)] = true := by decide

/-- One format F2 word bit by bit: ADC is 011 bbb 01 with bbb = 101 for zero page,X, so 0111 0101, then the operand byte. -/
theorem test_decode_bits : decodesTo [([0b01110101, 0b00010000], .adcZpx 0x10), ([0b01001100, 0b00110100, 0b00010010], .jmpAbs 0x1234),
    ([0b11010000, 0b11111001], .bne 0xF9)] = true := by decide

/-- A list that ends inside an instruction is refused by name. -/
theorem test_decode_truncated : decode [0xAD, 0x34] = .error .truncated ∧ decode [] = .error .truncated := ⟨rfl, rfl⟩

/-- Bit 0 of a table word is bit 0 of the first byte; bits above `nbits` are 0. -/
theorem test_decodeTableWord : decodeTableWord 24 0x1234AD = some (.ldaAbs 0x1234) ∧ decodeTableWord 16 0x10A9 = some (.ldaImm 0x10) ∧
    decodeTableWord 8 0xA9 = some (.ldaImm 0x00) ∧ decodeTableWord 8 0x02 = none := by decide

/-- The word is fetched where `PC` points, also across the top of memory. -/
theorem test_withFetchWord : fetchInstr (({ State.reset with pc := 0xFFFE }).withFetchWord 24 0x12344C) = .ok (.jmpAbs 0x1234) := rfl

/-! Single steps: rows of 95_test_vectors.md sections 1 and 2. A test names its row; what a row does not list did not
change. -/

theorem test_S5 : stepIs ({ (startState 0x8000 [0xB9, 0xFE, 0xFF] [(0x0003, 0x33)]) with y := 0x05 })
    .executed (fun s => { s with a := 0x33, pc := 0x8003, last := some 0x0003 }) [] = true := by decide

theorem test_L1 : stepIs ({ (startState 0x8000 [0xA9, 0x00] []) with a := 0x55, n := true })
    .executed (fun s => { s with a := 0x00, pc := 0x8002, n := false, z := true, last := some 0x8001 }) [] = true := by decide

theorem test_L3 : stepIs ({ (startState 0x8000 [0xB5, 0x10] [(0x0005, 0x77), (0x0105, 0x99)]) with x := 0xF5 })
    .executed (fun s => { s with a := 0x77, pc := 0x8002, last := some 0x0005 }) [] = true := by decide

theorem test_L4 : stepIs ({ (startState 0x8000 [0xA1, 0x20] [(0x0024, 0x00), (0x0025, 0x60), (0x6000, 0x5A)]) with x := 0x04 })
    .executed (fun s => { s with a := 0x5A, pc := 0x8002, last := some 0x6000 }) [] = true := by decide

theorem test_L5 : stepIs ({ (startState 0x8000 [0xA1, 0xFC] [(0x00FF, 0x34), (0x0100, 0x12), (0x0000, 0x56), (0x1234, 0xAB), (0x5634, 0xCD)]) with x := 0x03 })
    .executed (fun s => { s with a := 0xAB, pc := 0x8002, n := true, last := some 0x1234 }) [] = true := by decide

theorem test_L6 : stepIs ({ (startState 0x8000 [0xB1, 0x40] [(0x0040, 0xF8), (0x0041, 0xFF), (0x0008, 0x3C)]) with y := 0x10 })
    .executed (fun s => { s with a := 0x3C, pc := 0x8002, last := some 0x0008 }) [] = true := by decide

theorem test_L7 : stepIs ({ (startState 0x8000 [0xBD, 0xFF, 0xFF] [(0x0000, 0x42)]) with x := 0x01 })
    .executed (fun s => { s with a := 0x42, pc := 0x8003, last := some 0x0000 }) [] = true := by decide

theorem test_L8 : stepIs ({ (startState 0x8000 [0xB6, 0x10] [(0x0001, 0x80)]) with y := 0xF1 })
    .executed (fun s => { s with x := 0x80, pc := 0x8002, n := true, last := some 0x0001 }) [] = true := by decide

theorem test_L9 : stepIs ({ (startState 0x8000 [0xBE, 0x34, 0x12] [(0x1236, 0x00)]) with y := 0x02, x := 0x07 })
    .executed (fun s => { s with x := 0x00, pc := 0x8003, z := true, last := some 0x1236 }) [] = true := by decide

theorem test_L10 : stepIs ({ (startState 0x8000 [0xB4, 0x10] [(0x0011, 0x7F)]) with x := 0x01 })
    .executed (fun s => { s with y := 0x7F, pc := 0x8002, last := some 0x0011 }) [] = true := by decide

theorem test_L11 : stepIs ({ (startState 0x8000 [0xBC, 0x34, 0x12] [(0x1333, 0xFF)]) with x := 0xFF })
    .executed (fun s => { s with y := 0xFF, pc := 0x8003, n := true, last := some 0x1333 }) [] = true := by decide

theorem test_L13 : stepIs ({ (startState 0x8000 [0x91, 0x20] [(0x0020, 0xFE), (0x0021, 0x02)]) with a := 0x99, y := 0x03 })
    .executed (fun s => { s with pc := 0x8002, last := some 0x0301 }) [(0x0301, 0x99)] = true := by decide

theorem test_L14 : stepIs ({ (startState 0x8000 [0x96, 0xFF] []) with x := 0x12, y := 0x02 })
    .executed (fun s => { s with pc := 0x8002, last := some 0x0001 }) [(0x0001, 0x12)] = true := by decide

theorem test_L15 : stepIs ({ (startState 0x8000 [0x94, 0x20] []) with y := 0x80, x := 0x10 })
    .executed (fun s => { s with pc := 0x8002, last := some 0x0030 }) [(0x0030, 0x80)] = true := by decide

theorem test_L16 : stepIs ({ (startState 0x8000 [0x8D, 0x01, 0x80] []) with a := 0xEA })
    .executed (fun s => { s with pc := 0x8003, last := some 0x8001 }) [(0x8001, 0xEA)] = true := by decide

theorem test_L17 : stepIs ({ (startState 0x8000 [0x81, 0x20] [(0x0000, 0x00), (0x0001, 0x03)]) with a := 0x42, x := 0xE0 })
    .executed (fun s => { s with pc := 0x8002, last := some 0x0300 }) [(0x0300, 0x42)] = true := by decide

theorem test_A2 : stepIs ({ (startState 0x8000 [0x69, 0x80] []) with a := 0x80 })
    .executed (fun s => { s with a := 0x00, pc := 0x8002, v := true, z := true, c := true, last := some 0x8001 }) [] = true := by decide

theorem test_A4 : stepIs ({ (startState 0x8000 [0x69, 0x01] []) with a := 0x09, d := true })
    .executed (fun s => { s with a := 0x0A, pc := 0x8002, last := some 0x8001 }) [] = true := by decide

theorem test_A6 : stepIs ({ (startState 0x8000 [0xE9, 0xB0] []) with a := 0x50, c := true })
    .executed (fun s => { s with a := 0xA0, pc := 0x8002, n := true, v := true, c := false, last := some 0x8001 }) [] = true := by decide

theorem test_A9 : stepIs ({ (startState 0x8000 [0x75, 0x10] [(0x0014, 0x22), (0x0010, 0x00), (0x0011, 0x30), (0x3002, 0x55)]) with a := 0x01, x := 0x04, y := 0x02 })
    .executed (fun s => { s with a := 0x23, pc := 0x8002, last := some 0x0014 }) [] = true := by decide

theorem test_A10 : stepIs ({ (startState 0x8000 [0xE9, 0x10] []) with a := 0x10, c := false })
    .executed (fun s => { s with a := 0xFF, pc := 0x8002, n := true, last := some 0x8001 }) [] = true := by decide

theorem test_A12 : stepIs ({ (startState 0x8000 [0xC9, 0x20] []) with a := 0x10 })
    .executed (fun s => { s with pc := 0x8002, n := true, last := some 0x8001 }) [] = true := by decide

theorem test_A13 : stepIs ({ (startState 0x8000 [0xE4, 0x10] [(0x0010, 0x80)]) with x := 0x80 })
    .executed (fun s => { s with pc := 0x8002, z := true, c := true, last := some 0x0010 }) [] = true := by decide

theorem test_A14 : stepIs ({ (startState 0x8000 [0xCC, 0x34, 0x12] [(0x1234, 0x01)]) with y := 0x80, v := true })
    .executed (fun s => { s with pc := 0x8003, c := true, last := some 0x1234 }) [] = true := by decide

theorem test_A15 : stepIs ({ (startState 0x8000 [0xE6, 0x10] [(0x0010, 0xFF)]) with c := true })
    .executed (fun s => { s with pc := 0x8002, z := true, last := some 0x0010 }) [(0x0010, 0x00)] = true := by decide

theorem test_A16 : stepIs ({ (startState 0x8000 [0xDE, 0x00, 0x12] [(0x1234, 0x00)]) with x := 0x34 })
    .executed (fun s => { s with pc := 0x8003, n := true, last := some 0x1234 }) [(0x1234, 0xFF)] = true := by decide

theorem test_A17 : stepIs ({ (startState 0x8000 [0xE8] []) with x := 0xFF })
    .executed (fun s => { s with x := 0x00, pc := 0x8001, z := true }) [] = true := by decide

theorem test_A18 : stepIs ({ (startState 0x8000 [0xC8] []) with y := 0x7F })
    .executed (fun s => { s with y := 0x80, pc := 0x8001, n := true }) [] = true := by decide

theorem test_A19 : stepIs ({ (startState 0x8000 [0xCA] []) with x := 0x00 })
    .executed (fun s => { s with x := 0xFF, pc := 0x8001, n := true }) [] = true := by decide

theorem test_A20 : stepIs ({ (startState 0x8000 [0x88] []) with y := 0x01 })
    .executed (fun s => { s with y := 0x00, pc := 0x8001, z := true }) [] = true := by decide

theorem test_A21 : stepIs ({ (startState 0x8000 [0xD1, 0x20] [(0x0020, 0x00), (0x0021, 0x40), (0x4000, 0x00)]) with a := 0x00, y := 0x00 })
    .executed (fun s => { s with pc := 0x8002, z := true, c := true, last := some 0x4000 }) [] = true := by decide

theorem test_B1 : stepIs ({ (startState 0x8000 [0x29, 0x0F] []) with a := 0xF0 })
    .executed (fun s => { s with a := 0x00, pc := 0x8002, z := true, last := some 0x8001 }) [] = true := by decide

theorem test_B2 : stepIs ({ (startState 0x8000 [0x35, 0x10] [(0x0011, 0x81)]) with a := 0xFF, x := 0x01 })
    .executed (fun s => { s with a := 0x81, pc := 0x8002, n := true, last := some 0x0011 }) [] = true := by decide

theorem test_B3 : stepIs ({ (startState 0x8000 [0x11, 0x20] [(0x0020, 0xFF), (0x0021, 0x00), (0x0100, 0x80)]) with a := 0x01, y := 0x01 })
    .executed (fun s => { s with a := 0x81, pc := 0x8002, n := true, last := some 0x0100 }) [] = true := by decide

theorem test_B4 : stepIs ({ (startState 0x8000 [0x49, 0xFF] []) with a := 0xFF })
    .executed (fun s => { s with a := 0x00, pc := 0x8002, z := true, last := some 0x8001 }) [] = true := by decide

theorem test_B5 : stepIs ({ (startState 0x8000 [0x59, 0x34, 0x12] [(0x1235, 0xF0)]) with a := 0x0F, y := 0x01 })
    .executed (fun s => { s with a := 0xFF, pc := 0x8003, n := true, last := some 0x1235 }) [] = true := by decide

theorem test_B6 : stepIs ({ (startState 0x8000 [0x0A] []) with a := 0x80 })
    .executed (fun s => { s with a := 0x00, pc := 0x8001, z := true, c := true }) [] = true := by decide

theorem test_B7 : stepIs ((startState 0x8000 [0x06, 0x10] [(0x0010, 0x41)]))
    .executed (fun s => { s with pc := 0x8002, n := true, last := some 0x0010 }) [(0x0010, 0x82)] = true := by decide

theorem test_B8 : stepIs ({ (startState 0x8000 [0x4A] []) with a := 0x01, n := true })
    .executed (fun s => { s with a := 0x00, pc := 0x8001, n := false, z := true, c := true }) [] = true := by decide

theorem test_B9 : stepIs ({ (startState 0x8000 [0x5E, 0x00, 0x12] [(0x12FF, 0xFF)]) with x := 0xFF })
    .executed (fun s => { s with pc := 0x8003, c := true, last := some 0x12FF }) [(0x12FF, 0x7F)] = true := by decide

theorem test_B10 : stepIs ({ (startState 0x8000 [0x16, 0x10] [(0x0000, 0x40)]) with x := 0xF0, c := true })
    .executed (fun s => { s with pc := 0x8002, n := true, c := false, last := some 0x0000 }) [(0x0000, 0x80)] = true := by decide

theorem test_J1 : stepIs ({ (startState 0x8000 [0xD0, 0x04] []) with z := false })
    .executed (fun s => { s with pc := 0x8006 }) [] = true := by decide

theorem test_J3 : stepIs ({ (startState 0x8000 [0x90, 0xFE] []) with c := false, last := some 0x1234 })
    .executed (fun s => { s with last := none }) [] = true := by decide

theorem test_J4 : stepIs ({ (startState 0x8000 [0xB0, 0x80] []) with c := true })
    .executed (fun s => { s with pc := 0x7F82 }) [] = true := by decide

theorem test_J5 : stepIs ({ (startState 0x8000 [0x30, 0x7F] []) with n := true })
    .executed (fun s => { s with pc := 0x8081 }) [] = true := by decide

theorem test_J6 : stepIs ({ (startState 0xFFF8 [0x10, 0x10] []) with n := false })
    .executed (fun s => { s with pc := 0x000A }) [] = true := by decide

theorem test_J8 : stepIs ({ (startState 0x0001 [0x50, 0xFC] []) with v := false })
    .executed (fun s => { s with pc := 0xFFFF }) [] = true := by decide

theorem test_J9 : stepIs ({ (startState 0x8000 [0x4C, 0x34, 0x12] []) with last := some 0x0010 })
    .executed (fun s => { s with pc := 0x1234, last := none }) [] = true := by decide

theorem test_J10 : stepIs ((startState 0x8000 [0x6C, 0xFF, 0x12] [(0x12FF, 0x78), (0x1300, 0x56), (0x1200, 0x99)]))
    .executed (fun s => { s with pc := 0x5678 }) [] = true := by decide

theorem test_J12 : stepIs ({ (startState 0x8000 [0x20, 0x00, 0x90] []) with sp := 0x00 })
    .executed (fun s => { s with sp := 0xFE, pc := 0x9000 }) [(0x0100, 0x80), (0x01FF, 0x03)] = true := by decide

theorem test_J13 : stepIs ({ (startState 0x9000 [0x60] [(0x01FE, 0x03), (0x01FF, 0x80)]) with sp := 0xFD })
    .executed (fun s => { s with sp := 0xFF, pc := 0x8003 }) [] = true := by decide

theorem test_J17 : stepIs ({ (startState 0x8000 [0xF0, 0x00] []) with z := true })
    .executed (fun s => { s with pc := 0x8002 }) [] = true := by decide

theorem test_K1 : stepIs ({ (startState 0x8000 [0x48] []) with a := 0x5A, sp := 0x00 })
    .executed (fun s => { s with sp := 0xFF, pc := 0x8001 }) [(0x0100, 0x5A)] = true := by decide

theorem test_K3 : stepIs ({ (startState 0x8000 [0x68] [(0x0180, 0x80)]) with sp := 0x7F })
    .executed (fun s => { s with a := 0x80, sp := 0x80, pc := 0x8001, n := true }) [] = true := by decide

theorem test_K4 : stepIs ({ (startState 0x8000 [0x08] []) with n := true, v := true, d := true, i := true, c := true, sp := 0xFF })
    .executed (fun s => { s with sp := 0xFE, pc := 0x8001 }) [(0x01FF, 0xCD)] = true := by decide

theorem test_K5 : stepIs ({ (startState 0x8000 [0x08] []) with z := true, sp := 0xFF })
    .executed (fun s => { s with sp := 0xFE, pc := 0x8001 }) [(0x01FF, 0x02)] = true := by decide

theorem test_K6 : stepIs ({ (startState 0x8000 [0xAA] []) with a := 0x80 })
    .executed (fun s => { s with x := 0x80, pc := 0x8001, n := true }) [] = true := by decide

theorem test_K7 : stepIs ({ (startState 0x8000 [0xA8] []) with a := 0x00, y := 0x05 })
    .executed (fun s => { s with y := 0x00, pc := 0x8001, z := true }) [] = true := by decide

theorem test_K8 : stepIs ({ (startState 0x8000 [0xBA] []) with sp := 0x00, x := 0x09 })
    .executed (fun s => { s with x := 0x00, pc := 0x8001, z := true }) [] = true := by decide

theorem test_K9 : stepIs ({ (startState 0x8000 [0x8A] []) with x := 0x7F, a := 0x80, n := true })
    .executed (fun s => { s with a := 0x7F, pc := 0x8001, n := false }) [] = true := by decide

theorem test_K10 : stepIs ({ (startState 0x8000 [0x9A] []) with x := 0x00, sp := 0x55, n := true })
    .executed (fun s => { s with sp := 0x00, pc := 0x8001 }) [] = true := by decide

theorem test_K11 : stepIs ({ (startState 0x8000 [0x98] []) with y := 0xFF })
    .executed (fun s => { s with a := 0xFF, pc := 0x8001, n := true }) [] = true := by decide

theorem test_K12 : stepIs ((startState 0x8000 [0x38] []))
    .executed (fun s => { s with pc := 0x8001, c := true }) [] = true := by decide

theorem test_K13 : stepIs ({ (startState 0x8000 [0x18] []) with c := true })
    .executed (fun s => { s with pc := 0x8001, c := false }) [] = true := by decide

theorem test_K14 : stepIs ((startState 0x8000 [0x78] []))
    .executed (fun s => { s with pc := 0x8001, i := true }) [] = true := by decide

theorem test_K15 : stepIs ({ (startState 0x8000 [0x58] []) with i := true })
    .executed (fun s => { s with pc := 0x8001, i := false }) [] = true := by decide

theorem test_K16 : stepIs ((startState 0x8000 [0xF8] []))
    .executed (fun s => { s with pc := 0x8001, d := true }) [] = true := by decide

theorem test_K17 : stepIs ({ (startState 0x8000 [0xD8] []) with d := true })
    .executed (fun s => { s with pc := 0x8001, d := false }) [] = true := by decide

theorem test_K18 : stepIs ({ (startState 0x8000 [0xB8] []) with v := true })
    .executed (fun s => { s with pc := 0x8001, v := false }) [] = true := by decide

theorem test_K19 : stepIs ({ (startState 0x8000 [0xEA] []) with last := some 0x0200 })
    .executed (fun s => { s with pc := 0x8001 }) [] = true := by decide

theorem test_I1 : stepIs ({ (startState 0x8000 [0x00] []) with sp := 0xFF })
    .executedAsNoop (fun s => { s with pc := 0x8001 }) [] = true := by decide

theorem test_I2 : stepIs ({ (startState 0x8000 [0x28] [(0x01FF, 0xFF)]) with sp := 0xFE })
    .executedAsNoop (fun s => { s with pc := 0x8001 }) [] = true := by decide

theorem test_I3 : stepIs ({ (startState 0x8000 [0x2A] []) with a := 0x81, c := true })
    .executedAsNoop (fun s => { s with pc := 0x8001 }) [] = true := by decide

theorem test_I4 : stepIs ({ (startState 0x8000 [0x36, 0x10] [(0x0015, 0x81)]) with x := 0x05, c := true })
    .executedAsNoop (fun s => { s with pc := 0x8002, last := some 0x0015 }) [] = true := by decide

theorem test_I5 : stepIs ({ (startState 0x8000 [0x6E, 0x34, 0x12] [(0x1234, 0x01)]) with c := true })
    .executedAsNoop (fun s => { s with pc := 0x8003, last := some 0x1234 }) [] = true := by decide

theorem test_I6 : stepIs ({ (startState 0x8000 [0x7E, 0x00, 0x12] []) with x := 0x10 })
    .executedAsNoop (fun s => { s with pc := 0x8003, last := some 0x1210 }) [] = true := by decide

theorem test_I7 : stepIs ({ (startState 0x8000 [0x40] [(0x01FD, 0xFF), (0x01FE, 0x00), (0x01FF, 0x90)]) with sp := 0xFC })
    .executedAsNoop (fun s => { s with pc := 0x8001 }) [] = true := by decide

theorem test_I8 : stepIs ({ (startState 0x8000 [0x24, 0x10] [(0x0010, 0xC0)]) with a := 0x00 })
    .executedAsNoop (fun s => { s with pc := 0x8002, last := some 0x0010 }) [] = true := by decide

theorem test_I9 : stepIs ({ (startState 0x8000 [0x2C, 0x00, 0x60] [(0x6000, 0x00)]) with a := 0xFF })
    .executedAsNoop (fun s => { s with pc := 0x8003, last := some 0x6000 }) [] = true := by decide

theorem test_I10 : stepIs ({ (startState 0x8000 [0x26, 0x10] [(0x0010, 0x80)]) with last := some 0x0300 })
    .executedAsNoop (fun s => { s with pc := 0x8002, last := some 0x0010 }) [] = true := by decide

theorem test_X1 : stepIs ({ (startState 0x8000 [0x02] []) with a := 0x12, last := some 0x0200 })
    .invalidOpcode (fun s => { s with pc := 0x8001, run := false }) [] = true := by decide

theorem test_X3 : stepIs ((startState 0xFFFF [0xFF] []))
    .invalidOpcode (fun s => { s with pc := 0x0000, run := false }) [] = true := by decide

theorem test_X4 : stepIs ({ (startState 0x8000 [0xA9, 0x42] []) with run := false })
    .invalidOpcode (id) [] = true := by decide

theorem test_X5 : stepIs ((startState 0xFFFF [0xA9, 0x42] [(0x0000, 0x42)]))
    .executed (fun s => { s with a := 0x42, pc := 0x0001, last := some 0x0000 }) [] = true := by decide

theorem test_X6 : stepIs ((startState 0xFFFE [0x4C, 0x34, 0x12] [(0x0000, 0x12)]))
    .executed (fun s => { s with pc := 0x1234 }) [] = true := by decide

/-! Host calls: rows of 95_test_vectors.md sections 1 (S7, S9) and 3. -/

/-- The example binding of 95_test_vectors.md section 3. -/
def exampleGpio : Config.GpioBinding where
  gpio0Port := 0x6000
  gpio0Ddr := 0x6001
  gpio1Port := 0x6002
  gpio1Ddr := 0x6003
  buttonPair := 0
  buttonBit := 0

theorem test_exampleGpio_distinct : exampleGpio.distinct = true := by decide

/-- Pressing or releasing the button on memory with these bytes leaves the state changed by these bytes alone. -/
def buttonIs (s : State) (pressed : Bool) (cells : List (Addr × Byte)) : Bool :=
  decide (s.setButtonPin exampleGpio pressed = poke s cells)

theorem test_G1 : buttonIs (poke State.reset [(0x6000, 0x00)]) true [(0x6000, 0x01)] = true := by decide

theorem test_G2 : buttonIs (poke State.reset [(0x6000, 0x01)]) false [(0x6000, 0x00)] = true := by decide

theorem test_G3 : buttonIs (poke State.reset [(0x6000, 0xFE)]) true [(0x6000, 0xFF)] = true := by decide

theorem test_G4 : buttonIs (poke State.reset [(0x6001, 0xFE), (0x6000, 0xAA)]) true [(0x6000, 0xAB)] = true := by decide

theorem test_G5 : buttonIs (poke State.reset [(0x6001, 0x01)]) true [] = true := by decide

theorem test_G6 : buttonIs (poke State.reset [(0x6001, 0x01), (0x6000, 0x01)]) false [] = true := by decide

theorem test_G8 : buttonIs ({ State.reset with run := false }) true [(0x6000, 0x01)] = true := by decide

/-- The other pair of the binding, bit 7: its own port byte and direction bit count (R365). -/
theorem test_button_other_pair : (poke State.reset [(0x6001, 0xFF), (0x6003, 0x7F), (0x6002, 0x11)]).setButtonPin
    { exampleGpio with buttonPair := 1, buttonBit := 7 } true
    = poke State.reset [(0x6001, 0xFF), (0x6003, 0x7F), (0x6002, 0x91)] := by decide

/-- The start of rows S9. -/
def s9 (cells : List (Addr × Byte)) : State :=
  poke ({ a := 0x12, x := 0x34, y := 0x56, sp := 0xF0, pc := 0x1234, n := true, v := true, b := false, d := true, i := true,
          z := true, c := true, run := true, last := some 0x0200, mem := [] }) cells

theorem test_S9a : (s9 [(0xFFFD, 0x80), (0x0200, 0x99)]).hostReset
    = poke { State.reset with pc := 0x8000, last := some 0x0200 } [(0xFFFD, 0x80), (0x0200, 0x99)] := by decide

theorem test_S9b : ({ s9 [(0xFFFD, 0x80)] with run := false }).hostReset.run = true := by decide

theorem test_S9c : (s9 [(0xFFFC, 0x34), (0xFFFD, 0x12)]).hostReset.pc = 0x1234 := by decide

theorem test_H1 : State.launch [] = State.reset := by decide

theorem test_H2 : State.launch [0xA9, 0x01, 0x02] = poke State.reset [(0x8000, 0xA9), (0x8001, 0x01), (0x8002, 0x02)] := by decide

/-- The room for the image ends exactly at 0xFFFF (H4), and a shorter image is taken whole. -/
theorem test_H4_image_space : codeOrigin.toNat + imageSpace = 65536 ∧ ([1, 2, 3] : List Byte).take imageSpace = [1, 2, 3] := by decide

theorem test_loadImage_ioError : loadImage none = .error .ioError := rfl

theorem test_readMemoryRange : (poke State.reset [(0xFFFE, 0x01), (0xFFFF, 0x02)]).readMemoryRange 0xFFFE 2 = some [0x01, 0x02] ∧
    State.reset.readMemoryRange 0xFFFE 3 = none := by decide

/-! The canonical form of memory: writing 0x00 takes the entry out; order of writes does not show. -/

theorem test_memory_canonical : (poke State.reset [(0x0010, 0x01), (0x0005, 0x02), (0x0010, 0x00)]).mem = [(0x0005, 0x02)] ∧
    poke State.reset [(0x0010, 0x01), (0x0005, 0x02)] = poke State.reset [(0x0005, 0x02), (0x0010, 0x01)] := by decide

theorem test_memory_wf : Memory.wf [(5, 1), (16, 2)] = true ∧ Memory.wf [(16, 2), (5, 1)] = false ∧ Memory.wf [(5, 0)] = false ∧
    Memory.wf [(65536, 1)] = false ∧ Memory.wf [(5, 1), (5, 2)] = false := by decide

/-! Witnesses: for each obligation with hypotheses, a state and operands that meet them. -/

/-- `LDA $10,X` about to run. -/
def ldaState : State := { startState 0x8000 [0xB5, 0x10] [(0x0005, 0x77)] with x := 0xF5 }

/-- `STA $8003` about to run: it stores into the byte after itself. -/
def staState : State := { startState 0x8000 [0x8D, 0x03, 0x80] [] with a := 0xE8 }

/-- An illegal byte at the top of memory. -/
def illegalState : State := startState 0xFFFF [0xFF] []

/-- A halted machine. -/
def haltedState : State := { startState 0x8000 [0xA9, 0x42] [] with run := false }

theorem witness_DecodedBytesAreTheEncoding : decode [0xB5, 0x10, 0xEA] = .ok (.ldaZpx 0x10, [0xEA]) ∧
    decode [0xEA] = .ok (.nop, []) ∧ decode [0x4C, 0xFF, 0xFF] = .ok (.jmpAbs 0xFFFF, []) := ⟨rfl, rfl, rfl⟩

theorem witness_OpcodeRowsAreTheSpecsTable : (Mode.zpx, 0x75) ∈ specRows .adc ∧ (Mode.imp, 0x00) ∈ specRows .brk ∧
    (Mode.absx, 0xFE) ∈ specRows .inc := by decide

theorem witness_IllegalBytesAreTheSpecsList : 0x02 ∈ illegalBytes ∧ 0xFF ∈ illegalBytes ∧ 0xA2 ∉ illegalBytes ∧
    illegalByNibble 0x02 = true := by decide

theorem witness_StepRunsTheDecodedInstruction : ldaState.run = true ∧ (Instr.ldaZpx 0x10).wellFormed = true ∧
    decode [ldaState.readByte ldaState.pc, ldaState.readByte (ldaState.pc + 1), ldaState.readByte (ldaState.pc + 2)]
      = .ok (.ldaZpx 0x10, [0x00]) := ⟨rfl, rfl, rfl⟩

theorem witness_InvalidOpcodeHalts : (illegalState.run = true ∧ opcodeForm (illegalState.readByte illegalState.pc) = none) ∧
    (∃ t, exec (.ldaZpx 0x10) ldaState = .next t) ∧
    (ldaState.run = true ∧ opcodeForm (ldaState.readByte ldaState.pc) ≠ none) ∧ haltedState.run = false :=
  ⟨⟨rfl, rfl⟩, ⟨_, rfl⟩, ⟨rfl, nofun⟩, rfl⟩

theorem witness_HaltedStepChangesNothing : haltedState.run = false := rfl

theorem witness_RunHaltStateMachine : (∃ t, step illegalState = .next t) ∧ (∃ t, step ldaState = .next t) ∧
    (haltedState.run = false ∧ ∃ t, step haltedState = .next t) := ⟨⟨_, rfl⟩, ⟨_, rfl⟩, rfl, ⟨_, rfl⟩⟩

theorem witness_StepResultClassifiesTheOpcode : illegalState.run = true ∧ ∃ t, step illegalState = .next t := ⟨rfl, _, rfl⟩

/-- One clause each: an instruction, a branch not taken, an illegal byte where `PC` wraps, a halted machine. -/
theorem witness_PcAdvanceLaw : ((∃ t, step ldaState = .next t) ∧ ldaState.run = true ∧
      fetchInstr ldaState = .ok (.ldaZpx 0x10) ∧ branchTaken (Instr.ldaZpx 0x10).mnemonic ldaState = false) ∧
    (fetchInstr (startState 0xFFFE [0xF0, 0x04] []) = .ok (.beq 0x04) ∧
      branchTaken .beq (startState 0xFFFE [0xF0, 0x04] []) = false) ∧
    ((∃ t, step illegalState = .next t) ∧ illegalState.run = true ∧ opcodeForm (illegalState.readByte illegalState.pc) = none) ∧
    ((∃ t, step haltedState = .next t) ∧ haltedState.run = false) :=
  ⟨⟨⟨_, rfl⟩, rfl, rfl, rfl⟩, ⟨rfl, rfl⟩, ⟨⟨_, rfl⟩, rfl, rfl⟩, ⟨_, rfl⟩, rfl⟩

theorem witness_LastFollowsThePolicy : ((∃ t, exec (.bne 0x04) ldaState = .next t) ∧ isControlTransfer .bne = true) ∧
    ((∃ t, exec (.ldaZpx 0x10) ldaState = .next t) ∧ isControlTransfer .lda = false ∧
      effAddr (Instr.ldaZpx 0x10).operand ldaState = some 0x0005) ∧
    ((∃ t, exec .inx ldaState = .next t) ∧ isControlTransfer .inx = false ∧ effAddr Instr.inx.operand ldaState = none) ∧
    (haltedState.run = false ∧ ∃ t, step haltedState = .next t) ∧
    (illegalState.readByte illegalState.pc ∈ illegalBytes ∧ ∃ t, step illegalState = .next t) :=
  ⟨⟨⟨_, rfl⟩, rfl⟩, ⟨⟨_, rfl⟩, rfl, rfl⟩, ⟨⟨_, rfl⟩, rfl, rfl⟩, ⟨rfl, _, rfl⟩, by decide, _, rfl⟩

theorem witness_LastIsNeverRead : ∃ t, step ldaState = .next t := ⟨_, rfl⟩

theorem witness_StepKeepsTheInvariant : staState.Inv ∧ ∃ t, step staState = .next t := ⟨⟨by decide, rfl, rfl⟩, _, rfl⟩

theorem witness_HostCallsKeepTheInvariant : (HostAction.setButtonPin true ≠ .step ∧ staState.Inv ∧
      ∃ t, staState.act exampleGpio (.setButtonPin true) = .next t) ∧
    (HostAction.reset ≠ .step ∧ ∃ t, staState.act exampleGpio .reset = .next t) :=
  ⟨⟨by decide, ⟨by decide, rfl, rfl⟩, _, rfl⟩, by decide, _, rfl⟩

theorem witness_WriteReplacesOneByte : (0x0000 : Addr) ≠ 0xFFFF := by decide

theorem witness_MemoryFrame : ((∃ t, exec (.staAbs 0x8003) staState = .next t) ∧ (0x8002 : Addr) ∉ storeAddrs (.staAbs 0x8003) staState) ∧
    ((∃ t, exec (.jsr 0x9000) State.reset = .next t) ∧ (0x0101 : Addr) ∉ storeAddrs (.jsr 0x9000) State.reset) ∧
    storeAddrs (.jsr 0x9000) State.reset = [0x0100, 0x01FF] ∧
    ((∃ t, exec (.ldaZpx 0x10) ldaState = .next t) ∧ (0x0005 : Addr) ∉ storeAddrs (.ldaZpx 0x10) ldaState) :=
  ⟨⟨⟨_, rfl⟩, by decide⟩, ⟨⟨_, rfl⟩, by decide⟩, by decide, ⟨_, rfl⟩, by decide⟩

/-- The step fetches `i` and leads to a state whose `k`-th byte fetched next is the byte `w` that `i` stores there. -/
def storesNext (s : State) (i : Instr) (k : Nat) (w : Byte) : Prop :=
  s.run = true ∧ fetchInstr s = .ok i ∧ ∃ t, step s = .next t ∧ (t.pc + BitVec.ofNat 16 k, w) ∈ storedBytes i s

/-- Each storing mnemonic: the first and the last byte fetched next, a push into the stack page where `PC` is, and JSR to
the byte it pushes first and to the one it pushes second (with `SP` wrapping). -/
theorem witness_StoreIsSeenByTheNextFetch : storesNext staState (.staAbs 0x8003) 0 0xE8 ∧
    storesNext { startState 0x8000 [0x8E, 0x05, 0x80] [] with x := 0x12 } (.stxAbs 0x8005) 2 0x12 ∧
    storesNext { startState 0xFFFD [0x84, 0x00] [] with y := 0xEA } (.styZp 0x00) 1 0xEA ∧
    storesNext (startState 0x8000 [0xEE, 0x03, 0x80] [(0x8003, 0xE9)]) (.incAbs 0x8003) 0 0xEA ∧
    storesNext (startState 0x8000 [0xCE, 0x03, 0x80] []) (.decAbs 0x8003) 0 0xFF ∧
    storesNext (startState 0x8000 [0x0E, 0x03, 0x80] [(0x8003, 0x81)]) (.aslAbs 0x8003) 0 0x02 ∧
    storesNext (startState 0x8000 [0x4E, 0x03, 0x80] [(0x8003, 0x81)]) (.lsrAbs 0x8003) 0 0x40 ∧
    storesNext { startState 0x0150 [0x48] [] with sp := 0x51, a := 0xEA } .pha 0 0xEA ∧
    storesNext { startState 0x0150 [0x08] [] with sp := 0x51, c := true } .php 0 0x01 ∧
    storesNext (startState 0x8000 [0x20, 0x00, 0x01] []) (.jsr 0x0100) 0 0x80 ∧
    storesNext (startState 0x8000 [0x20, 0xFF, 0x01] []) (.jsr 0x01FF) 0 0x03 :=
  ⟨⟨rfl, rfl, _, rfl, by decide⟩, ⟨rfl, rfl, _, rfl, by decide⟩, ⟨rfl, rfl, _, rfl, by decide⟩, ⟨rfl, rfl, _, rfl, by decide⟩,
    ⟨rfl, rfl, _, rfl, by decide⟩, ⟨rfl, rfl, _, rfl, by decide⟩, ⟨rfl, rfl, _, rfl, by decide⟩, ⟨rfl, rfl, _, rfl, by decide⟩,
    ⟨rfl, rfl, _, rfl, by decide⟩, ⟨rfl, rfl, _, rfl, by decide⟩, ⟨rfl, rfl, _, rfl, by decide⟩⟩

/-- The other clause: an instruction that stores into its own bytes (row L16) and nowhere the next step fetches from. -/
theorem witness_StoreIsSeenByTheNextFetch_elsewhere :
    (startState 0x8000 [0x8D, 0x01, 0x80] []).run = true ∧ fetchInstr (startState 0x8000 [0x8D, 0x01, 0x80] []) = .ok (.staAbs 0x8001) ∧
    ∃ t, step (startState 0x8000 [0x8D, 0x01, 0x80] []) = .next t ∧ t.pc + BitVec.ofNat 16 0 ∉ storeAddrs (.staAbs 0x8001) (startState 0x8000 [0x8D, 0x01, 0x80] []) :=
  ⟨rfl, rfl, _, rfl, by decide⟩

/-- One clause each: accumulator, a mode with an address (immediate, at the top of memory, and indexed), and no operand. -/
theorem witness_OperandIsTheByteAtItsAddress : (fetchInstr (startState 0x8000 [0x0A] []) = .ok .aslAcc ∧ Instr.aslAcc.operand.mode = .acc) ∧
    (fetchInstr ldaState = .ok (.ldaZpx 0x10) ∧ (Instr.ldaZpx 0x10).operand.mode ∉ [Mode.acc, .imp, .rel, .ind]) ∧
    (fetchInstr (startState 0xFFFF [0xA9, 0x42] []) = .ok (.ldaImm 0x42) ∧ (Instr.ldaImm 0x42).operand.mode ∉ [Mode.acc, .imp, .rel, .ind]) ∧
    (fetchInstr (startState 0x8000 [0x6C, 0x34, 0x12] []) = .ok (.jmpInd 0x1234) ∧ (Instr.jmpInd 0x1234).operand.mode ∈ [Mode.imp, .rel, .ind]) :=
  ⟨⟨rfl, rfl⟩, ⟨rfl, by decide⟩, ⟨rfl, by decide⟩, rfl, by decide⟩

/-- The pointer addresses at their ends: 0xFF + 0xFF wraps to 0xFE, and 0xFF is the last pointer of page zero. -/
theorem witness_EffectiveAddressArithmetic :
    (0x00FE : Addr).toNat = ((0xFF : Byte).toNat + ({ State.reset with x := 0xFF } : State).x.toNat) % 256 ∧
    (0x00FF : Addr).toNat = (0xFF : Byte).toNat ∧ effAddr (.imm 0x42) { State.reset with pc := 0xFFFF } = some 0x0000 := by decide

theorem witness_ZeroNegativeRule : ((∃ t, exec (.ldaImm 0x00) ldaState = .next t ∧ zeroNegativeByte (.ldaImm 0x00) ldaState t = some 0x00)) ∧
    (∃ t, exec (.incZp 0x05) ldaState = .next t ∧ zeroNegativeByte (.incZp 0x05) ldaState t = some 0x78) ∧
    (∃ t, exec (.cmpImm 0x01) ldaState = .next t ∧ zeroNegativeByte (.cmpImm 0x01) ldaState t = some 0xFF) ∧
    (∃ t, exec .txs ldaState = .next t ∧ zeroNegativeByte .txs ldaState t = none) :=
  ⟨⟨_, rfl, rfl⟩, ⟨_, rfl, rfl⟩, ⟨_, rfl, rfl⟩, _, rfl, rfl⟩

theorem witness_FlagFrame : ((∃ t, exec (.ldaImm 0x80) ldaState = .next t) ∧ writesV (.ldaImm 0x80) = false ∧ writesC (.ldaImm 0x80) = false ∧
      Mnemonic.lda ∉ [Mnemonic.cld, .sed] ∧ Mnemonic.lda ∉ [Mnemonic.cli, .sei]) ∧
    ((∃ t, exec .clv ldaState = .next t) ∧ (∃ t, exec .clc ldaState = .next t) ∧ (∃ t, exec .sec ldaState = .next t) ∧
      (∃ t, exec .cld ldaState = .next t) ∧ (∃ t, exec .sed ldaState = .next t) ∧ (∃ t, exec .cli ldaState = .next t) ∧
      (∃ t, exec .sei ldaState = .next t) ∧ (∃ t, exec .lsrAcc ldaState = .next t)) ∧
    Instr.clv.mnemonic = .clv ∧ Instr.clc.mnemonic = .clc ∧ Instr.sec.mnemonic = .sec ∧ Instr.cld.mnemonic = .cld ∧
    Instr.sed.mnemonic = .sed ∧ Instr.cli.mnemonic = .cli ∧ Instr.sei.mnemonic = .sei ∧ Instr.lsrAcc.mnemonic = .lsr :=
  ⟨⟨⟨_, rfl⟩, by decide⟩, ⟨⟨_, rfl⟩, ⟨_, rfl⟩, ⟨_, rfl⟩, ⟨_, rfl⟩, ⟨_, rfl⟩, ⟨_, rfl⟩, ⟨_, rfl⟩, ⟨_, rfl⟩⟩, by decide⟩

theorem witness_RegisterFrame : (∃ t, exec (.aslZp 0x05) ldaState = .next t) ∧ writesA (.aslZp 0x05) = false ∧
    writesX (.aslZp 0x05) = false ∧ writesY (.aslZp 0x05) = false ∧ writesSp (.aslZp 0x05) = false ∧ writesA .aslAcc = true :=
  ⟨⟨_, rfl⟩, by decide⟩

theorem witness_RunIsReadAndWrittenByNoInstruction :
    (∃ t, step illegalState = .next t ∧ illegalState.run = true ∧ t.run = false) ∧
    (∃ t, step haltedState = .next t ∧ haltedState.run = false) := ⟨⟨_, rfl, rfl, rfl⟩, _, rfl, rfl⟩

theorem witness_DecimalFlagHasNoEffect : (Instr.adcImm 0x01).mnemonic = .adc ∧ (Instr.sbcIndy 0x01).mnemonic = .sbc := ⟨rfl, rfl⟩

theorem witness_PushThenPull : (0x01FF : Addr) ≠ 0x0100 + zext16 State.reset.sp := by decide

/-- From the reset `SP`, where the second push wraps to the top of the stack page (S6b). -/
theorem witness_JsrRtsRoundTrip : ∃ t u, exec (.jsr 0x9000) State.reset = .next t ∧ exec .rts t = .next u ∧
    (0x0101 : Addr) ≠ stackAddr State.reset.sp ∧ (0x0101 : Addr) ≠ stackAddr (State.reset.sp - 1) :=
  ⟨_, _, rfl, rfl, by decide, by decide⟩

theorem witness_PushedFlagByteShape : ({ State.reset with n := true, c := true } : State).Inv ∧
    ∃ t, exec .php { State.reset with n := true, c := true } = .next t := ⟨⟨rfl, rfl, rfl⟩, _, rfl⟩

theorem witness_LoadsComplete : (Instr.ldaIndx 0xFC).mnemonic = .lda ∧ (Instr.ldxZpy 0x10).mnemonic = .ldx ∧ (Instr.ldyAbsx 0x1234).mnemonic = .ldy :=
  ⟨rfl, rfl, rfl⟩

theorem witness_StoresComplete : (Instr.staIndy 0x20).mnemonic = .sta ∧ (Instr.stxZpy 0xFF).mnemonic = .stx ∧ (Instr.styZpx 0x20).mnemonic = .sty :=
  ⟨rfl, rfl, rfl⟩

theorem witness_AdcCompletes : (Instr.adcZpx 0x10).mnemonic = .adc := rfl

theorem witness_SbcCompletes : (Instr.sbcImm 0xB0).mnemonic = .sbc := rfl

theorem witness_ComparesComplete : (Instr.cmpIndy 0x20).mnemonic = .cmp ∧ (Instr.cpxZp 0x10).mnemonic = .cpx ∧ (Instr.cpyAbs 0x1234).mnemonic = .cpy :=
  ⟨rfl, rfl, rfl⟩

theorem witness_MemoryIncrementsComplete : (Instr.incZp 0x10).mnemonic = .inc ∧ (Instr.decAbsx 0x1200).mnemonic = .dec := ⟨rfl, rfl⟩

theorem witness_LogicalsComplete : (Instr.andZpx 0x10).mnemonic = .and ∧ (Instr.oraIndy 0x20).mnemonic = .ora ∧ (Instr.eorAbsy 0x1234).mnemonic = .eor :=
  ⟨rfl, rfl, rfl⟩

/-- Both forms of each shift: accumulator and memory. -/
theorem witness_ShiftsComplete : Instr.aslAcc.mnemonic = .asl ∧ (Instr.aslZpx 0x10).mnemonic = .asl ∧ Instr.lsrAcc.mnemonic = .lsr ∧
    (Instr.lsrAbsx 0x1200).mnemonic = .lsr := ⟨rfl, rfl, rfl, rfl⟩

/-- Each of the six, with and without an address. -/
theorem witness_InertInstructionsComplete : Instr.brk.mnemonic ∈ [Mnemonic.brk, .plp, .rol, .ror, .rti, .bit] ∧
    (Instr.rolZpx 0x10).mnemonic ∈ [Mnemonic.brk, .plp, .rol, .ror, .rti, .bit] ∧
    Instr.rorAcc.mnemonic ∈ [Mnemonic.brk, .plp, .rol, .ror, .rti, .bit] ∧ Instr.plp.mnemonic ∈ [Mnemonic.brk, .plp, .rol, .ror, .rti, .bit] ∧
    Instr.rti.mnemonic ∈ [Mnemonic.brk, .plp, .rol, .ror, .rti, .bit] ∧ (Instr.bitAbs 0x6000).mnemonic ∈ [Mnemonic.brk, .plp, .rol, .ror, .rti, .bit] := by
  decide

theorem witness_ButtonSetsOneInputBit :
    ((poke State.reset [(0x6001, 0x01)]).readByte exampleGpio.buttonDdr).getLsbD exampleGpio.buttonBit.val = true ∧
    (State.reset.readByte exampleGpio.buttonDdr).getLsbD exampleGpio.buttonBit.val = false ∧
    (7 < 8 ∧ 7 ≠ exampleGpio.buttonBit.val) ∧ (0x6001 : Addr) ≠ exampleGpio.buttonPort := by decide

/-- The last range that fits, with its last byte, and the first that does not. -/
theorem witness_ObservationsReadTheState : (0xFFFE : Addr).toNat + 2 ≤ 65536 ∧ 1 < 2 ∧ 65536 < (0xFFFE : Addr).toNat + 3 := by decide

end Sys2Proof.Tests
end

section
/-! PROOFS. The obligations of 10_state.md: the reset law with the power-up state (R50), and the running/halted
indicator (R40). -/

namespace Sys2Proof.Machine

open Sys2Proof

/-! Storing and loading bytes. -/

/-- Stored bytes go to memory and nowhere else (20_memory.md R67). -/
theorem State.storeBytes_eq (s : State) (a : Addr) (bytes : List Byte) :
    s.storeBytes a bytes = { s with mem := (s.storeBytes a bytes).mem } := by
  induction bytes generalizing s a with
  | nil => rfl
  | cons w rest ih => exact ih (s.writeByte a w) (a + 1)

theorem State.hostReset_eq (s : State) :
    s.hostReset = { State.reset with pc := s.readWord resetVector, last := s.last, mem := s.mem } := rfl

@[simp] theorem State.readByte_hostReset (s : State) (a : Addr) : s.hostReset.readByte a = s.readByte a := rfl

@[simp] theorem State.readByte_initialised (a : Addr) : State.initialised.readByte a = 0x00 := rfl

/-- The launch state in terms of its own memory: the values of reset, `PC` from the vector, `LAST` still none. -/
theorem State.launch_eq (image : List Byte) :
    State.launch image =
      { State.reset with pc := (State.launch image).readWord resetVector, mem := (State.launch image).mem } := by
  have hlast : (State.initialised.storeBytes codeOrigin (image.take imageSpace)).last = none := by
    rw [State.storeBytes_eq]
    rfl
  rw [State.launch, State.hostReset_eq, hlast]
  rfl

/-- The memory of the launch state: zero below the code origin, from there the image, which is followed by zeros and
cut off where memory ends (70_reset_and_hazards.md R392). -/
theorem State.readByte_launch (image : List Byte) (a : Addr) :
    (State.launch image).readByte a =
      if a.toNat < codeOrigin.toNat then 0x00 else image.getD (a.toNat - codeOrigin.toNat) 0x00 := by
  have horigin : codeOrigin.toNat = 0x8000 := rfl
  have hspace : imageSpace = 0x8000 := rfl
  have ha : a.toNat < 65536 := a.isLt
  have hlen : (image.take imageSpace).length = min 0x8000 image.length := List.length_take
  rw [State.launch, State.readByte_hostReset, State.readByte_storeBytes _ _ _ _ (by omega), State.readByte_initialised]
  by_cases hlow : a.toNat < codeOrigin.toNat
  · rw [if_pos hlow, if_neg (by omega)]
  rw [if_neg hlow]
  by_cases hin : a.toNat < codeOrigin.toNat + (image.take imageSpace).length
  · rw [if_pos ⟨by omega, hin⟩, List.getD_eq_getElem?_getD, List.getD_eq_getElem?_getD,
      List.getElem?_take_of_lt (by omega)]
  · rw [if_neg fun h => hin h.2, List.getD_eq_default _ _ (by omega)]

/-- Settles O19: reset by its definition, the launch state by `launch_eq` and `readByte_launch`. -/
theorem resetLawAndPowerUp : Obligations.ResetLawAndPowerUp :=
  ⟨State.hostReset_eq, fun image => ⟨State.launch_eq image, State.readByte_launch image⟩⟩

/-! `RUN`. -/

/-- `RUN` is no input of an instruction: every arm of `exec` is built from updates and reads of other fields, so with
`RUN` replaced it answers the same state with `RUN` replaced (10_state.md R40). -/
theorem exec_setRun (i : Instr) (s : State) (r : Bool) :
    ∃ t, exec i s = .next t ∧ exec i (s.setRun r) = .next (t.setRun r) := by
  cases i <;> exact ⟨_, rfl, rfl⟩

/-- An instruction keeps `RUN`: replacing `RUN` by its own value in the state before must leave the state after alone. -/
theorem exec_run {i : Instr} {s t : State} (h : exec i s = .next t) : t.run = s.run := by
  obtain ⟨u, hu, hset⟩ := exec_setRun i s s.run
  have hsame : u.setRun s.run = u := Host.Outcome.next.inj (hset.symm.trans hu)
  have htu : t = u := Host.Outcome.next.inj (h.symm.trans hu)
  rw [htu, ← hsame]
  rfl

/-- Only an opcode byte absent from the decode table clears `RUN` (60_exceptions.md R341). -/
theorem opcodeForm_none_of_step_clears_run {s t : State} (h : step s = .next t) (hs : s.run = true)
    (ht : t.run = false) : opcodeForm (s.readByte s.pc) = none := by
  obtain ⟨hhalt, -⟩ | ⟨-, i, -, hexec⟩ | ⟨-, hnone, -⟩ := step_cases h
  · simp [hs] at hhalt
  · simp [exec_run hexec, hs] at ht
  · exact hnone

/-- A step while halted answers the state it started in (60_exceptions.md R343). -/
theorem step_of_halted {s : State} (hs : s.run = false) : step s = .next s := by
  simp [step, hs, State.stayHalted]

@[simp] theorem State.setButtonPin_run (g : Config.GpioBinding) (pressed : Bool) (s : State) :
    (s.setButtonPin g pressed).run = s.run := by
  unfold State.setButtonPin
  split <;> rfl

/-- Settles O29: no instruction reads or writes `RUN` (`exec_setRun`, `exec_run`), a step clears it only on an illegal
byte, and reset sets it. -/
theorem runIsReadAndWrittenByNoInstruction : Obligations.RunIsReadAndWrittenByNoInstruction := by
  refine ⟨fun i s r => ?instruction, fun s t => opcodeForm_none_of_step_clears_run, fun s t h hs => ?halted,
    State.setButtonPin_run, fun s => ⟨rfl, rfl, rfl⟩, rfl, fun image => rfl⟩
  case instruction =>
    obtain ⟨t, ht, hset⟩ := exec_setRun i s r
    exact ⟨t, ht, exec_run ht, hset⟩
  case halted =>
    exact Host.Outcome.next.inj (h.symm.trans (step_of_halted hs))

end Sys2Proof.Machine
end

section
/-! PROOFS. The obligations of 20_memory.md: a byte write (R67), and the invariant that every step keeps (memory in
canonical form, `B` clear, never `Z` and `N` together). -/

namespace Sys2Proof.Machine

open Sys2Proof

/-! The byte write. -/

theorem State.writeByte_eq (s : State) (a : Addr) (w : Byte) :
    s.writeByte a w = { s with mem := (s.writeByte a w).mem } := rfl

/-- Writing what already stands at an address leaves every byte as it was. -/
theorem State.readByte_writeByte_readByte (s : State) (a k : Addr) :
    (s.writeByte a (s.readByte a)).readByte k = s.readByte k := by
  by_cases h : k = a
  · rw [h]
    exact State.readByte_writeByte_same s a (s.readByte a)
  · exact State.readByte_writeByte_other s (s.readByte a) h

/-- Settles O21: the two laws of reading after a write, and the frame of the other fields. -/
theorem writeReplacesOneByte : Obligations.WriteReplacesOneByte := fun s a w =>
  ⟨State.readByte_writeByte_same s a w, fun _ => State.readByte_writeByte_other s w, State.writeByte_eq s a w,
    State.readByte_writeByte_readByte s a⟩

/-! The invariant. Memory: an instruction writes single bytes, and each such write keeps the canonical form. -/

theorem Memory.wf_foldl_write (cells : List (Addr × Byte)) {m : Memory} (hm : m.wf = true) :
    (cells.foldl (fun m c => m.write c.1.toNat c.2) m).wf = true := by
  induction cells generalizing m with
  | nil => exact hm
  | cons c rest ih => exact ih (Memory.wf_write c.2 c.1.isLt hm)

theorem exec_wf {i : Instr} {s t : State} (h : exec i s = .next t) (hs : s.mem.wf = true) : t.mem.wf = true := by
  rw [exec_mem h]
  exact Memory.wf_foldl_write _ hs

/-! The flags `B`, `N` and `Z`. -/

@[simp] theorem writeBack_b (tg : Target) (s s1 : State) (r : Byte) : (writeBack tg s r s1).b = s1.b := by
  cases tg <;> rfl

/-- No operation writes `B` (10_state.md R32): each is made of updates of other fields. -/
theorem Runs.b_eq {s t : State} {m : Mnemonic} {o : Operand} (h : Runs s m o t) : t.b = s.b := by
  cases h with
  | lda | ldx | ldy => simp [loadA_eq, loadX_eq, loadY_eq]
  | sta | stx | sty => simp [storeByte_eq]
  | adc | sbc => simp [addCarry, subCarry, addToA_eq]
  | cmp | cpx | cpy => simp [compareWith_eq]
  | inc | dec => simp [increment, decrement]
  | inx | iny | dex | dey | tax | tay | tsx | txa | tya => simp [setXFlags, setYFlags, setAFlags]
  | and | ora | eor => simp [andA, orA, eorA, logicResult_eq]
  | asl | lsr => simp [shiftLeft, shiftRight]
  | bcc | bcs | beq | bne | bmi | bpl | bvc | bvs => simp [branch_eq]
  | jmpAbs | jmpInd => simp [jumpTo_eq]
  | jsr | rts => simp [callSubroutine, returnFromSubroutine, State.pullRest]
  | pha | pla | php => simp [pushA, pullA, pushFlags, State.pullRest]
  | txs | clc | sec | cli | sei | clv | cld | sed | nop => simp
  | brk | plp | rol | ror | rti | bit => simp [consumeOperand]

/-- An operation keeps `N` and `Z`, or ends with `SetZN` of one byte (10_state.md R38). -/
theorem Runs.nz_cases {s t : State} {m : Mnemonic} {o : Operand} (h : Runs s m o t) :
    (t.n = s.n ∧ t.z = s.z) ∨ ∃ (u : State) (w : Byte), t = u.setZN w := by
  cases h with
  | lda | ldx | ldy | adc | sbc | cmp | cpx | cpy | inc | dec | inx | iny | dex | dey | and | ora | eor | asl | lsr
  | pla | tax | tay | tsx | txa | tya => exact .inr ⟨_, _, rfl⟩
  | sta | stx | sty => simp [storeByte_eq]
  | bcc | bcs | beq | bne | bmi | bpl | bvc | bvs => simp [branch_eq]
  | jmpAbs | jmpInd => simp [jumpTo_eq]
  | jsr => simp [callSubroutine]
  | rts => simp [returnFromSubroutine, State.pullRest]
  | pha => simp [pushA]
  | php => simp [pushFlags]
  | txs | clc | sec | cli | sei | clv | cld | sed | nop => exact .inl ⟨rfl, rfl⟩
  | brk | plp | rol | ror | rti | bit => simp [consumeOperand]

/-- A zero byte has bit 7 clear, so `SetZN` never sets both flags. -/
theorem State.setZN_not_n_and_z (s : State) (w : Byte) : ((s.setZN w).n && (s.setZN w).z) = false := by
  by_cases hw : w = 0
  · simp [hw]
  · rw [State.setZN_z, beq_eq_false_iff_ne.mpr hw, Bool.and_false]

theorem exec_not_n_and_z {i : Instr} {s t : State} (h : exec i s = .next t) (hs : (s.n && s.z) = false) :
    (t.n && t.z) = false := by
  obtain ⟨hn, hz⟩ | ⟨u, w, rfl⟩ := (runs_of_exec h).nz_cases
  · rw [hn, hz]
    exact hs
  · exact u.setZN_not_n_and_z w

theorem exec_inv {i : Instr} {s t : State} (h : exec i s = .next t) (hs : s.Inv) : t.Inv := by
  obtain ⟨hmem, hb, hnz⟩ := hs
  exact ⟨exec_wf h hmem, (runs_of_exec h).b_eq.trans hb, exec_not_n_and_z h hnz⟩

theorem State.raiseInvalidOpcode_inv {s : State} (hs : s.Inv) : s.raiseInvalidOpcode.Inv := hs

/-- Settles O15: by the three things a step can be, a halted machine, an instruction (`exec_inv`), an illegal byte. -/
theorem stepKeepsTheInvariant : Obligations.StepKeepsTheInvariant := by
  intro s t hs h
  obtain ⟨-, rfl⟩ | ⟨-, i, -, hexec⟩ | ⟨-, -, rfl⟩ := step_cases h
  · exact hs
  · exact exec_inv hexec hs
  · exact State.raiseInvalidOpcode_inv hs

end Sys2Proof.Machine
end

section
/-! PROOFS. The obligations of 40_step_and_addressing.md: the invalid-opcode halt (R141; 60_exceptions.md R341). -/

namespace Sys2Proof.Machine

open Sys2Proof

/-- A running machine on an absent opcode byte halts past that byte (R141). -/
theorem step_of_absent_opcode {s : State} (hs : s.run = true) (hop : opcodeForm (s.readByte s.pc) = none) :
    step s = .next s.raiseInvalidOpcode := by
  obtain ⟨e, he⟩ := (fetchInstr_error_iff s).mpr hop
  simp [step, hs, he]

theorem instrResult_ne_invalidOpcode (i : Instr) : instrResult i ≠ .invalidOpcode := by
  unfold instrResult
  split <;> nofun

/-- `InvalidOpcode` is the result of a halted machine and of an absent opcode byte, and of nothing else (R143). -/
theorem stepResult_eq_invalidOpcode_iff (s : State) :
    stepResult s = .invalidOpcode ↔ s.run = false ∨ opcodeForm (s.readByte s.pc) = none := by
  rw [← fetchInstr_error_iff]
  cases hs : s.run with
  | false => simp [stepResult, hs]
  | true =>
    cases hf : fetchInstr s with
    | ok i => simp [stepResult, hs, hf, instrResult_ne_invalidOpcode]
    | error e => simp [stepResult, hs, hf]

/-- Settles O7: the halt by `step_of_absent_opcode`, what keeps `RUN` by `exec_run`, and where the result can be
`InvalidOpcode` by `stepResult_eq_invalidOpcode_iff`. -/
theorem invalidOpcodeHalts : Obligations.InvalidOpcodeHalts := by
  refine ⟨fun s hs hop => ?absent, fun i _ _ h => ⟨exec_run h, instrResult_ne_invalidOpcode i⟩,
    fun s hs hop hresult => ?present, fun _ => step_of_halted, fun _ => rfl⟩
  case absent =>
    exact ⟨step_of_absent_opcode hs hop, (stepResult_eq_invalidOpcode_iff s).mpr (.inr hop)⟩
  case present =>
    obtain hhalt | hnone := (stepResult_eq_invalidOpcode_iff s).mp hresult
    · simp [hs] at hhalt
    · exact hop hnone

end Sys2Proof.Machine
end

section
/-! PROOFS. The obligations of 60_exceptions.md: the run/halt state machine (R344). -/

namespace Sys2Proof.Machine

open Sys2Proof

/-- An instruction is fetched only where the decode table has the opcode byte. -/
theorem opcodeForm_ne_none_of_fetchInstr_ok {s : State} {i : Instr} (h : fetchInstr s = .ok i) :
    opcodeForm (s.readByte s.pc) ≠ none := by
  intro hnone
  obtain ⟨e, he⟩ := (fetchInstr_error_iff s).mpr hnone
  simp [h] at he

/-- Running after a step is running before it on a valid opcode, by the three things a step can be: a halted machine
stays as it is, an instruction keeps `RUN` (`exec_run`), an absent byte clears it. -/
theorem step_run_iff {s t : State} (h : step s = .next t) :
    t.run = true ↔ s.run = true ∧ opcodeForm (s.readByte s.pc) ≠ none := by
  obtain ⟨hhalt, rfl⟩ | ⟨hrun, i, hfetch, hexec⟩ | ⟨-, hnone, rfl⟩ := step_cases h
  · simp [hhalt]
  · simp [exec_run hexec, hrun, opcodeForm_ne_none_of_fetchInstr_ok hfetch]
  · simp [State.raiseInvalidOpcode_eq, hnone]

/-- Settles O9: a step's transitions by `step_run_iff`, reset's by `State.hostReset_eq`, the button's by
`State.setButtonPin_run`. -/
theorem runHaltStateMachine : Obligations.RunHaltStateMachine :=
  ⟨fun _ _ => step_run_iff, State.hostReset_eq, State.setButtonPin_run⟩

end Sys2Proof.Machine
end

section
/-! PROOFS. The obligations of 30_encoding.md: the round trip of encoding and decoding in both directions, the table of
R111, the illegal bytes of R115 and the examples of R130. -/

namespace Sys2Proof

open Sys2Proof.Machine

/-! One relation says what each format of R102 takes; the decoder and the encoder are both read off it. -/

/-- `f.Takes i bs`: a table entry of form `f`, given the operand bytes `bs`, is the instruction `i` (R102, R103). -/
inductive Form.Takes : Form → Instr → List Byte → Prop where
  | f1 (i : Instr) : Form.Takes (.f1 i) i []
  | f2 (mk : Byte → Instr) (b : Byte) : Form.Takes (.f2 mk) (mk b) [b]
  | f3 (mk : Addr → Instr) (w : Addr) : Form.Takes (.f3 mk) (mk w) [loByte w, hiByte w]

/-- The decoder gives the instruction that the operand bytes make, and leaves the bytes after them (R104). -/
theorem Form.Takes.decode_eq {f : Form} {i : Instr} {bs : List Byte} (h : f.Takes i bs) {op : Byte}
    (hop : opcodeForm op = some f) (rest : List Byte) : decode (op :: bs ++ rest) = .ok (i, rest) := by
  cases h with
  | f1 i => exact decode_f1 rest hop
  | f2 mk b => exact decode_f2 b rest hop
  | f3 mk w => exact decode_f3 w rest hop

/-- The converse: an answer of the decoder is an opcode byte of the table followed by the operand bytes it takes. -/
theorem takes_of_decode {bytes rest : List Byte} {i : Instr} (h : decode bytes = .ok (i, rest)) :
    ∃ op f bs, opcodeForm op = some f ∧ f.Takes i bs ∧ bytes = op :: bs ++ rest := by
  obtain ⟨op, hop, rfl⟩ | ⟨op, mk, b, hop, rfl, rfl⟩ | ⟨op, mk, lo, hi, hop, rfl, rfl⟩ := decode_cases h
  · exact ⟨op, _, _, hop, .f1 i, rfl⟩
  · exact ⟨op, _, _, hop, .f2 mk b, rfl⟩
  · refine ⟨op, _, _, hop, .f3 mk (wordOf lo hi), ?_⟩
    simp

/-- The decode table has an entry at each instruction's opcode byte, and the entry takes its operand bytes. -/
theorem opcodeForm_opcode (i : Instr) : ∃ f, opcodeForm i.opcode = some f ∧ f.Takes i i.operand.bytes := by
  cases i <;> simp [Instr.opcode, Instr.operand, Operand.bytes, MemOperand.bytes] <;> constructor

/-- The rows of the decode table agree with the encoder: an entry makes instructions whose opcode byte is the one that
selects it and whose operand bytes are the ones it was given (R110, R111). -/
theorem Form.Takes.encode_eq {f : Form} {i : Instr} {bs : List Byte} (h : f.Takes i bs) {op : Byte}
    (hop : opcodeForm op = some f) : i.opcode = op ∧ i.operand.bytes = bs := by
  unfold opcodeForm at hop
  split at hop <;> cases hop <;> cases h <;> exact ⟨BitVec.eq_of_toNat_eq (Eq.symm ‹_›), rfl⟩

/-- Settles O1: the entry at the opcode byte takes the operand bytes, so the decoder gives the instruction back. -/
theorem decodeEncodeRoundTrip : Obligations.DecodeEncodeRoundTrip := by
  intro i rest
  obtain ⟨f, hop, htakes⟩ := opcodeForm_opcode i
  exact htakes.decode_eq hop rest

theorem encode_append_of_decode {bytes rest : List Byte} {i : Instr} (h : decode bytes = .ok (i, rest)) :
    bytes = encode i ++ rest := by
  obtain ⟨op, f, bs, hop, htakes, rfl⟩ := takes_of_decode h
  obtain ⟨rfl, rfl⟩ := htakes.encode_eq hop
  rfl

/-- Every instruction is a filled cell of R111 (40_step_and_addressing.md R164). -/
theorem Instr.wellFormed_eq (i : Instr) : i.wellFormed = true := by
  cases i <;> rfl

theorem MemOperand.length_bytes (m : MemOperand) : m.bytes.length = m.mode.count := by
  cases m <;> rfl

/-- An operand has as many bytes as its mode has (R101, R102). -/
theorem Operand.length_bytes (o : Operand) : o.bytes.length = o.mode.count := by
  cases o with
  | mem m => exact m.length_bytes
  | imp | acc | imm | ind | rel => rfl

theorem length_encode (i : Instr) : (encode i).length = i.length := by
  rw [encode, List.length_cons, Operand.length_bytes, Instr.length, Operand.length, Nat.add_comm]

theorem Mode.count_le (md : Mode) : md.count ≤ 2 := by
  cases md <;> decide

/-- Settles O2: the rows of the table agree with the encoder, and no mode has more than two operand bytes. -/
theorem decodedBytesAreTheEncoding : Obligations.DecodedBytesAreTheEncoding := by
  intro bytes rest i h
  have hcount := i.operand.mode.count_le
  have hlen : i.length = 1 + i.operand.mode.count := rfl
  exact ⟨encode_append_of_decode h, i.wellFormed_eq, length_encode i, by omega, by omega⟩

/-! The table by mnemonic (R111). -/

/-- The instruction a table entry makes of the two bytes after the opcode byte; the formats F1 and F2 leave some. -/
def Form.instr (b1 b2 : Byte) : Form → Instr
  | .f1 i => i
  | .f2 mk => mk b1
  | .f3 mk => mk (wordOf b1 b2)

/-- Three bytes are never too few for the decoder. -/
theorem decode_three {op : Byte} {f : Form} (hop : opcodeForm op = some f) (b1 b2 : Byte) :
    ∃ rest, decode [op, b1, b2] = .ok (f.instr b1 b2, rest) := by
  cases f with
  | f1 i => exact ⟨_, decode_f1 _ hop⟩
  | f2 mk => exact ⟨_, decode_f2 _ _ hop⟩
  | f3 mk => exact ⟨_, by simpa [Form.instr] using decode_f3 (wordOf b1 b2) [] hop⟩

theorem instr_mem_specRows (i : Instr) : (i.operand.mode, i.opcode) ∈ specRows i.mnemonic := by
  cases i <;> exact List.mem_of_elem_eq_true rfl

/-- Each cell of the table of R111 is an entry of the decode table, for an instruction of its mnemonic and mode. -/
theorem opcodeForm_of_mem_specRows (m : Mnemonic) (b1 b2 : Byte) : ∀ cell ∈ specRows m,
    (opcodeForm cell.2).map (fun f => ((f.instr b1 b2).mnemonic, (f.instr b1 b2).operand.mode)) = some (m, cell.1) := by
  cases m <;> simp only [specRows, List.forall_mem_cons] <;> simp <;> and_intros <;> rfl

theorem opcode_of_decode {op : Byte} {bytes rest : List Byte} {i : Instr}
    (h : decode (op :: bytes) = .ok (i, rest)) : i.opcode = op := by
  have hbytes := encode_append_of_decode h
  rw [encode, List.cons_append, List.cons.injEq] at hbytes
  exact hbytes.1.symm

/-- Settles O3: each instruction is found in its row, and each cell's opcode byte is an entry of the decode table. -/
theorem opcodeRowsAreTheSpecsTable : Obligations.OpcodeRowsAreTheSpecsTable := by
  refine ⟨instr_mem_specRows, fun m md op b1 b2 hcell => ?_⟩
  obtain ⟨f, hop, hf⟩ := Option.map_eq_some_iff.mp (opcodeForm_of_mem_specRows m b1 b2 (md, op) hcell)
  obtain ⟨hmnemonic, hmode⟩ := Prod.mk.inj hf
  obtain ⟨rest, hdecode⟩ := decode_three hop b1 b2
  exact ⟨_, rest, hdecode, hmnemonic, hmode, opcode_of_decode hdecode⟩

/-! The illegal bytes (R115). -/

/-- The decoder rejects an opcode byte by name exactly when the decode table lacks it. -/
theorem decode_eq_invalidOpcode_iff (op : Byte) (rest : List Byte) :
    decode (op :: rest) = .error (.invalidOpcode op) ↔ opcodeForm op = none := by
  refine ⟨fun h => ?_, decode_none rest⟩
  cases hop : opcodeForm op with
  | none => rfl
  | some f =>
    rw [decode, hop] at h
    cases f with
    | f1 i => cases h
    | f2 mk => cases rest <;> cases h
    | f3 mk =>
      cases rest with
      | nil => cases h
      | cons b more => cases more <;> cases h

theorem opcodeForm_eq_none_iff (op : Byte) : opcodeForm op = none ↔ op ∈ illegalBytes := by
  rw [← Option.isNone_iff_eq_none]
  revert op
  decide

theorem mem_illegalBytes_iff (op : Byte) : op ∈ illegalBytes ↔ illegalByNibble op = true := by
  revert op
  decide

/-- Settles O4: the decode table lacks exactly the listed bytes, found by running through all 256. -/
theorem illegalBytesAreTheSpecsList : Obligations.IllegalBytesAreTheSpecsList :=
  ⟨fun op rest => (decode_eq_invalidOpcode_iff op rest).trans (opcodeForm_eq_none_iff op), mem_illegalBytes_iff, rfl⟩

/-- Settles O5: each example is a closed run of the decoder. -/
theorem specWordsDecode : Obligations.SpecWordsDecode := by
  and_intros <;> rfl

end Sys2Proof
end

section
/-! PROOFS. The obligations of 40_step_and_addressing.md: fetching and dispatch (R140, R142), the result of a step
(R143), the advance of `PC` (10_state.md R26) and the `LAST` policy (R160). -/

namespace Sys2Proof.Machine

open Sys2Proof

/-! Fetching and dispatch. -/

theorem fetchInstr_eq_ok_iff (s : State) (i : Instr) :
    fetchInstr s = .ok i ↔ ∃ rest, decode (fetchBytes s) = .ok (i, rest) := by
  unfold fetchInstr
  cases decode (fetchBytes s) with
  | error e => simp
  | ok p => cases p; simp

/-- The bytes at `PC` begin with the encoding of the instruction fetched. -/
theorem fetchBytes_of_fetchInstr {s : State} {i : Instr} (h : fetchInstr s = .ok i) :
    ∃ rest, fetchBytes s = encode i ++ rest := by
  obtain ⟨rest, hdecode⟩ := (fetchInstr_eq_ok_iff s i).mp h
  exact ⟨rest, encode_append_of_decode hdecode⟩

theorem opcode_of_fetchInstr {s : State} {i : Instr} (h : fetchInstr s = .ok i) : i.opcode = s.readByte s.pc := by
  obtain ⟨rest, hdecode⟩ := (fetchInstr_eq_ok_iff s i).mp h
  exact opcode_of_decode hdecode

theorem step_of_fetchInstr {s : State} {i : Instr} (hs : s.run = true) (h : fetchInstr s = .ok i) :
    step s = exec i s := by
  simp [step, hs, h]

theorem stepResult_of_fetchInstr {s : State} {i : Instr} (hs : s.run = true) (h : fetchInstr s = .ok i) :
    stepResult s = instrResult i := by
  simp [stepResult, hs, h]

theorem isInert_iff (m : Mnemonic) : isInert m = true ↔ m ∈ [Mnemonic.brk, .plp, .rol, .ror, .rti, .bit] :=
  List.contains_iff_mem

/-- Settles O6: the decoded instruction is the one fetched. -/
theorem stepRunsTheDecodedInstruction : Obligations.StepRunsTheDecodedInstruction := by
  intro s i rest hs _ hdecode
  have hfetch : fetchInstr s = .ok i := (fetchInstr_eq_ok_iff s i).mpr ⟨rest, hdecode⟩
  refine ⟨step_of_fetchInstr hs hfetch, ?_⟩
  rw [stepResult_of_fetchInstr hs hfetch, instrResult]
  simp only [isInert_iff]

/-- Settles O8: a halted step answers its own state, and its result is one of the two cases of `InvalidOpcode`. -/
theorem haltedStepChangesNothing : Obligations.HaltedStepChangesNothing := fun s hs =>
  ⟨step_of_halted hs, (stepResult_eq_invalidOpcode_iff s).mpr (.inl hs)⟩

/-- No step faults or is refused: a halted machine stays, an absent byte halts, an instruction answers a state. -/
theorem step_next (s : State) : SafeStep s := by
  unfold SafeStep step
  split
  · split
    · exact exec_next _ s
    · exact ⟨_, rfl⟩
  · exact ⟨_, rfl⟩

/-- Settles O10: the step by `step_next`; the host's other calls are functions to states. -/
theorem everyStepAnswersANextState : Obligations.EveryStepAnswersANextState := by
  refine ⟨step_next, fun g s call => ?_⟩
  cases call with
  | step => exact step_next s
  | reset => exact ⟨_, rfl⟩
  | setButtonPin pressed => exact ⟨_, rfl⟩

/-! The result of a step. -/

/-- The opcode bytes of the six inert mnemonics (46_inert.md R320 to R326). -/
def inertBytes : List Byte :=
  [0x00, 0x28, 0x40, 0x24, 0x2C, 0x2A, 0x26, 0x36, 0x2E, 0x3E, 0x6A, 0x66, 0x76, 0x6E, 0x7E]

theorem isInert_iff_opcode (i : Instr) : isInert i.mnemonic = true ↔ i.opcode ∈ inertBytes := by
  have h : isInert i.mnemonic = inertBytes.contains i.opcode := by cases i <;> rfl
  rw [h, List.contains_iff_mem]

theorem not_mem_illegalBytes_of_mem_inertBytes : ∀ op ∈ inertBytes, op ∉ illegalBytes := by decide

theorem instrResult_eq_executedAsNoop_iff (i : Instr) : instrResult i = .executedAsNoop ↔ i.opcode ∈ inertBytes := by
  rw [← isInert_iff_opcode]
  unfold instrResult
  split <;> simp [*]

theorem stepResult_eq_invalidOpcode_iff_illegal (s : State) :
    stepResult s = .invalidOpcode ↔ s.run = false ∨ s.readByte s.pc ∈ illegalBytes := by
  rw [stepResult_eq_invalidOpcode_iff, opcodeForm_eq_none_iff]

/-- A running machine on a valid opcode byte has the result of the instruction it fetches; on the others it is
`InvalidOpcode`, and no inert byte is among them. -/
theorem stepResult_eq_executedAsNoop_iff (s : State) :
    stepResult s = .executedAsNoop ↔ s.run = true ∧ s.readByte s.pc ∈ inertBytes := by
  by_cases hbad : s.run = false ∨ s.readByte s.pc ∈ illegalBytes
  · rw [(stepResult_eq_invalidOpcode_iff_illegal s).mpr hbad]
    refine ⟨nofun, fun ⟨hrun, hinert⟩ => ?_⟩
    obtain hhalt | hillegal := hbad
    · simp [hrun] at hhalt
    · exact absurd hillegal (not_mem_illegalBytes_of_mem_inertBytes _ hinert)
  · obtain ⟨hrun, hlegal⟩ := not_or.mp hbad
    rw [Bool.not_eq_false] at hrun
    cases hfetch : fetchInstr s with
    | ok i =>
      rw [stepResult_of_fetchInstr hrun hfetch, instrResult_eq_executedAsNoop_iff, opcode_of_fetchInstr hfetch]
      simp [hrun]
    | error e =>
      exact absurd ((opcodeForm_eq_none_iff _).mp ((fetchInstr_error_iff s).mp ⟨e, hfetch⟩)) hlegal

/-- Settles O11: the two classes of bytes, and the halt by `step_run_iff`. -/
theorem stepResultClassifiesTheOpcode : Obligations.StepResultClassifiesTheOpcode := by
  refine ⟨stepResult_eq_invalidOpcode_iff_illegal, stepResult_eq_executedAsNoop_iff, fun s t hs h => ?_⟩
  rw [stepResult_eq_invalidOpcode_iff, ← Bool.not_eq_true t.run, step_run_iff h]
  simp [hs]

/-! The advance of `PC`. -/

/-- Outside the taken branches, JMP, JSR and RTS an operation moves `PC` past the instruction (10_state.md R26). -/
theorem Runs.pc_eq {s t : State} {m : Mnemonic} {o : Operand} (h : Runs s m o t)
    (hjump : m ∉ [Mnemonic.jmp, .jsr, .rts]) (hbranch : branchTaken m s = false) :
    t.pc = s.pc + BitVec.ofNat 16 o.length := by
  cases h with
  | lda | ldx | ldy => simp [loadA_eq, loadX_eq, loadY_eq]
  | sta | stx | sty => simp [storeByte_eq]
  | adc | sbc => simp [addCarry, subCarry, addToA_eq]
  | cmp | cpx | cpy => simp [compareWith_eq]
  | inc | dec => simp [increment, decrement]
  | inx | iny | dex | dey | tax | tay | tsx | txa | tya => simp [setXFlags, setYFlags, setAFlags]
  | and | ora | eor => simp [andA, orA, eorA, logicResult_eq]
  | asl tg | lsr tg => cases tg <;> simp [shiftLeft, shiftRight, writeBack]
  | bcc | bcs | beq | bne | bmi | bpl | bvc | bvs =>
    simp [branchTaken] at hbranch
    simp [branch_eq, hbranch, Operand.length, Operand.mode, Mode.count]
  | jmpAbs | jmpInd | jsr | rts => simp at hjump
  | pha | pla | php => simp [pushA, pullA, pushFlags, State.pullRest]
  | txs | clc | sec | cli | sei | clv | cld | sed | nop => simp
  | brk | plp | rol | ror | rti | bit => simp [consumeOperand]

/-- Settles O12: by the three things a step can be. -/
theorem pcAdvanceLaw : Obligations.PcAdvanceLaw := by
  intro s t h
  refine ⟨fun i hrun hfetch hjump hbranch => ?instruction, fun hrun hop => ?illegal, fun hhalt => ?halted⟩
  case instruction =>
    rw [step_of_fetchInstr hrun hfetch] at h
    rw [(runs_of_exec h).pc_eq hjump hbranch, Operand.length, BitVec.ofNat_add, ← BitVec.add_assoc]
    rfl
  case illegal =>
    have ht : t = s.raiseInvalidOpcode := Host.Outcome.next.inj (h.symm.trans (step_of_absent_opcode hrun hop))
    rw [ht]
    exact ⟨rfl, rfl⟩
  case halted =>
    rw [Host.Outcome.next.inj (h.symm.trans (step_of_halted hhalt))]

/-! `LAST`. -/

theorem State.resolve_last_eq_or (s : State) (o : Operand) : (s.resolve o).last = (effAddr o s).or s.last := by
  rw [State.resolve_last]
  cases effAddr o s <;> rfl

/-- The `LAST` policy, operation by operation: none after a control transfer, otherwise what the resolver left. -/
theorem Runs.last_eq {s t : State} {m : Mnemonic} {o : Operand} (h : Runs s m o t) :
    t.last = if isControlTransfer m then none else (effAddr o s).or s.last := by
  rw [← State.resolve_last_eq_or]
  cases h with
  | asl tg | lsr tg => cases tg <;> rfl
  | _ => rfl

theorem exec_last {i : Instr} {s t : State} (h : exec i s = .next t) :
    t.last = if isControlTransfer i.mnemonic then none else (effAddr i.operand s).or s.last :=
  (runs_of_exec h).last_eq

/-- A step that runs no instruction leaves `LAST` alone: the halt of R141 and the halted step. -/
theorem step_last_of_invalidOpcode {s t : State} (hbad : s.run = false ∨ s.readByte s.pc ∈ illegalBytes)
    (h : step s = .next t) : t.last = s.last := by
  obtain ⟨-, rfl⟩ | ⟨hrun, i, hfetch, -⟩ | ⟨-, -, rfl⟩ := step_cases h
  · rfl
  · obtain hhalt | hillegal := hbad
    · simp [hrun] at hhalt
    · exact absurd ((opcodeForm_eq_none_iff _).mpr hillegal) (opcodeForm_ne_none_of_fetchInstr_ok hfetch)
  · rfl

@[simp] theorem State.setButtonPin_last (g : Config.GpioBinding) (pressed : Bool) (s : State) :
    (s.setButtonPin g pressed).last = s.last := by
  unfold State.setButtonPin
  split <;> rfl

/-- Settles O13: an instruction by `exec_last`, the other steps by `step_last_of_invalidOpcode`. -/
theorem lastFollowsThePolicy : Obligations.LastFollowsThePolicy := by
  refine ⟨fun i s t h => ?_, fun _ _ => step_last_of_invalidOpcode, fun _ => rfl, State.setButtonPin_last⟩
  rw [exec_last h]
  exact ⟨fun hct => by simp [hct], fun hct ea hea => by simp [hct, hea], fun hct hnone => by simp [hct, hnone]⟩

/-- `LAST` is no input of an instruction: with another `LAST` before, only `LAST` after can differ (10_state.md R41). -/
theorem exec_setLast (i : Instr) (s : State) (l : Option Addr) :
    ∃ t l', exec i s = .next t ∧ exec i (s.setLast l) = .next (t.setLast l') := by
  cases i <;> exact ⟨_, _, rfl, rfl⟩

/-- Settles O14: fetching reads `PC` and memory only, and `exec_setLast` says it of the instruction. -/
theorem lastIsNeverRead : Obligations.LastIsNeverRead := by
  intro s t l h
  have hfetch : fetchInstr (s.setLast l) = fetchInstr s := rfl
  have hresult : stepResult (s.setLast l) = stepResult s := rfl
  obtain ⟨hhalt, rfl⟩ | ⟨hrun, i, hi, hexec⟩ | ⟨hrun, hnone, rfl⟩ := step_cases h
  · have hstep : step (t.setLast l) = .next (t.setLast l) := step_of_halted hhalt
    exact ⟨l, hstep, hresult⟩
  · obtain ⟨t', l', ht', hl'⟩ := exec_setLast i s l
    obtain rfl : t = t' := Host.Outcome.next.inj (hexec.symm.trans ht')
    have hstep : step (s.setLast l) = exec i (s.setLast l) := step_of_fetchInstr hrun (hfetch.trans hi)
    exact ⟨l', hstep.trans hl', hresult⟩
  · have hstep : step (s.setLast l) = .next (s.setLast l).raiseInvalidOpcode := step_of_absent_opcode hrun hnone
    exact ⟨l, hstep, hresult⟩

end Sys2Proof.Machine
end

section
/-! PROOFS. The obligations of 40_step_and_addressing.md sections 2 and 4 and of 20_memory.md: the word read (R63), the
effective addresses (R145 to R157), the operand value (R161), the frame of memory (R68) and self-modifying code (section
8). -/

namespace Sys2Proof.Machine

open Sys2Proof

/-! The word read. -/

theorem toNat_add_one (a : Addr) : (a + 1).toNat = (a.toNat + 1) % 65536 := by
  simp

theorem State.readByte_add_one (s : State) (a : Addr) : s.readByte (a + 1) = s.mem.read ((a.toNat + 1) % 65536) := by
  rw [State.readByte, toNat_add_one]

/-- Settles O20: a word is made of two bytes (`toNat_wordOf`), and an address wraps only at 0xFFFF. -/
theorem wordReadIsLittleEndian : Obligations.WordReadIsLittleEndian := by
  intro s a
  have hhi : hiByte (s.readWord a) = s.readByte (a + 1) := hiByte_wordOf _ _
  refine ⟨?value, loByte_wordOf _ _, hhi, fun ha => ?top, fun ha => ?page⟩
  case value => rw [State.readWord, toNat_wordOf, State.readByte_add_one]
  case top => rw [hhi, ha]; rfl
  case page => rw [hhi, ha]; rfl

/-! Effective addresses as numbers. -/

theorem toNat_zext16_add (b w : Byte) : (zext16 (b + w)).toNat = (b.toNat + w.toNat) % 256 := by
  rw [toNat_zext16, BitVec.toNat_add]

theorem toNat_add_zext16 (w : Addr) (b : Byte) : (w + zext16 b).toNat = (w.toNat + b.toNat) % 65536 := by
  rw [BitVec.toNat_add, toNat_zext16]

/-- Settles O25: zero-page sums are sums of bytes, the others sums of addresses (`toNat_zext16_add`,
`toNat_add_zext16`). -/
theorem effectiveAddressArithmetic : Obligations.EffectiveAddressArithmetic := by
  intro s b w
  refine ⟨toNat_zext16 b, toNat_zext16_add b s.x, toNat_zext16_add b s.y, rfl, toNat_add_zext16 w s.x,
    toNat_add_zext16 w s.y, fun p hp => ?indx, fun p hp => ?indy, rfl, congrArg some (toNat_add_one s.pc), rfl, rfl,
    rfl⟩
  case indx =>
    have hpointer : p = zext16 (b + s.x) := BitVec.eq_of_toNat_eq (hp.trans (toNat_zext16_add b s.x).symm)
    rw [hpointer, memAddr]
  case indy =>
    have hpointer : p = zext16 b := BitVec.eq_of_toNat_eq (hp.trans (toNat_zext16 b).symm)
    rw [hpointer, memAddr, toNat_add_zext16]

/-! The operand value. -/

/-- An immediate operand that was fetched is the byte after the opcode byte (R147; log entry 2). -/
theorem readByte_of_fetchInstr_imm {s : State} {i : Instr} {b : Byte} (h : fetchInstr s = .ok i)
    (hi : i.operand = .imm b) : s.readByte (s.pc + 1) = b := by
  obtain ⟨rest, hbytes⟩ := fetchBytes_of_fetchInstr h
  rw [encode, hi] at hbytes
  simp only [fetchBytes, Operand.bytes, List.cons_append, List.cons.injEq] at hbytes
  obtain ⟨-, hb, -⟩ := hbytes
  exact hb

/-- Settles O24: by the kind of operand; the immediate one is the only one that needs the fetch. -/
theorem operandIsTheByteAtItsAddress : Obligations.OperandIsTheByteAtItsAddress := by
  intro s i hfetch
  have himm : ∀ b, i.operand = .imm b → s.readByte (s.pc + 1) = b := fun b => readByte_of_fetchInstr_imm hfetch
  generalize i.operand = o at himm ⊢
  cases o with
  | imp | rel | ind => simp [Operand.mode, operandValue]
  | acc => simp [Operand.mode, operandValue]
  | imm b => simpa [Operand.mode, operandValue, effAddr] using (himm b rfl).symm
  | mem m => cases m <;> simp [Operand.mode, MemOperand.mode, operandValue, effAddr]

/-! The frame of memory and the bytes stored. -/

/-- Writing the bytes of a list of cells in turn. -/
def Memory.writeCells (m : Memory) (cells : List (Addr × Byte)) : Memory :=
  cells.foldl (fun m c => m.write c.1.toNat c.2) m

theorem Memory.read_writeCells_other {cells : List (Addr × Byte)} {a : Addr} (h : a ∉ cells.map Prod.fst)
    (m : Memory) : (m.writeCells cells).read a.toNat = m.read a.toNat := by
  induction cells generalizing m with
  | nil => rfl
  | cons c rest ih =>
    rw [List.map_cons, List.mem_cons, not_or] at h
    obtain ⟨hc, hrest⟩ := h
    exact (ih hrest _).trans (Memory.read_write_other m c.2 fun e => hc (BitVec.eq_of_toNat_eq e))

/-- Cells at addresses that all differ are read back. -/
theorem Memory.read_writeCells_mem {cells : List (Addr × Byte)} (hdistinct : (cells.map Prod.fst).Nodup) {a : Addr}
    {w : Byte} (h : (a, w) ∈ cells) (m : Memory) : (m.writeCells cells).read a.toNat = w := by
  induction cells generalizing m with
  | nil => cases h
  | cons c rest ih =>
    rw [List.map_cons, List.nodup_cons] at hdistinct
    obtain ⟨hfirst, hrest⟩ := hdistinct
    obtain rfl | hmem := List.mem_cons.mp h
    · exact (Memory.read_writeCells_other hfirst _).trans (Memory.read_write_same m a.toNat w)
    · exact ih hrest hmem _

theorem exec_mem_writeCells {i : Instr} {s t : State} (h : exec i s = .next t) :
    t.mem = s.mem.writeCells (storedBytes i s) := exec_mem h

/-- Settles O22: memory after an instruction is memory before it with the bytes of `storedBytes` written. -/
theorem memoryFrame : Obligations.MemoryFrame := by
  intro i s t a h ha
  rw [State.readByte, exec_mem_writeCells h]
  exact Memory.read_writeCells_other ha s.mem

theorem toNat_stackAddr (sp : Byte) : (stackAddr sp).toNat = 256 + sp.toNat := by
  have := sp.isLt
  rw [stackAddr, toNat_add_zext16, show stackBase.toNat = 256 from rfl]
  omega

theorem stackAddr_inj {p q : Byte} : stackAddr p = stackAddr q ↔ p = q := by
  refine ⟨fun h => BitVec.eq_of_toNat_eq ?_, congrArg stackAddr⟩
  have := congrArg BitVec.toNat h
  rw [toNat_stackAddr, toNat_stackAddr] at this
  omega

theorem stackAddr_ne_stackAddr_sub_one (sp : Byte) : stackAddr sp ≠ stackAddr (sp - 1) := by
  rw [Ne, stackAddr_inj]
  bv_omega

theorem storedAt_nodup (o : Operand) (s : State) (f : Byte → Byte) : ((storedAt o s f).map Prod.fst).Nodup := by
  cases o <;> simp [storedAt]

/-- No instruction stores twice to one address; JSR, the only one to store two bytes, pushes them to two places. -/
theorem storeAddrs_nodup (i : Instr) (s : State) : (storeAddrs i s).Nodup := by
  unfold storeAddrs storedBytes
  cases i.mnemonic with
  | sta | stx | sty | inc | dec | asl | lsr => exact storedAt_nodup _ _ _
  | jsr => simpa using stackAddr_ne_stackAddr_sub_one s.sp
  | _ => simp

theorem readByte_of_mem_storedBytes {i : Instr} {s t : State} (h : exec i s = .next t) {a : Addr} {w : Byte}
    (hw : (a, w) ∈ storedBytes i s) : t.readByte a = w := by
  rw [State.readByte, exec_mem_writeCells h]
  exact Memory.read_writeCells_mem (storeAddrs_nodup i s) hw s.mem

theorem getElem?_fetchBytes (t : State) {k : Nat} (hk : k < 3) :
    (fetchBytes t)[k]? = some (t.readByte (t.pc + BitVec.ofNat 16 k)) := by
  interval_cases k <;> simp [fetchBytes]

/-- Settles O23: the bytes stored are in memory after the step (`readByte_of_mem_storedBytes`), the others are as they
were (`memoryFrame`), and the next fetch reads memory. -/
theorem storeIsSeenByTheNextFetch : Obligations.StoreIsSeenByTheNextFetch := by
  intro s t i hrun hfetch hstep
  have hexec : exec i s = .next t := (step_of_fetchInstr hrun hfetch).symm.trans hstep
  refine ⟨hexec, fun a w => readByte_of_mem_storedBytes hexec, fun k w hk hw => ?stored, fun k hk hother => ?other⟩
  case stored => rw [getElem?_fetchBytes t hk, readByte_of_mem_storedBytes hexec hw]
  case other => rw [getElem?_fetchBytes t hk, memoryFrame i s t _ hexec hother]

end Sys2Proof.Machine
end

section
/-! PROOFS. The obligations of 10_state.md about what an instruction may write: the registers (R27), the flags (R39),
`Z` and `N` (R38) and the layout of the packed flag byte (R37). -/

namespace Sys2Proof.Machine

open Sys2Proof

/-! The registers and the flags. -/

/-- The tables of R27 and R39, by the operation that the instruction runs: it is one that the table gives the write, or
it keeps the register or flag. The flag instructions force theirs, and a byte shifted right has bit 7 clear. -/
theorem exec_frame {i : Instr} {s t : State} (h : exec i s = .next t) :
    ((writesA i = false → t.a = s.a) ∧ (writesX i = false → t.x = s.x) ∧ (writesY i = false → t.y = s.y) ∧
      (writesSp i = false → t.sp = s.sp)) ∧
    (writesV i = false → t.v = s.v) ∧ (writesC i = false → t.c = s.c) ∧
    (i.mnemonic ∉ [Mnemonic.cld, .sed] → t.d = s.d) ∧ (i.mnemonic ∉ [Mnemonic.cli, .sei] → t.i = s.i) ∧
    (i.mnemonic = .clv → t.v = false) ∧ (i.mnemonic = .clc → t.c = false) ∧ (i.mnemonic = .sec → t.c = true) ∧
    (i.mnemonic = .cld → t.d = false) ∧ (i.mnemonic = .sed → t.d = true) ∧
    (i.mnemonic = .cli → t.i = false) ∧ (i.mnemonic = .sei → t.i = true) ∧ (i.mnemonic = .lsr → t.n = false) := by
  have hr := runs_of_exec h
  clear h
  unfold writesA writesX writesY writesSp writesV writesC
  generalize i.mnemonic = m at hr ⊢
  generalize i.operand = o at hr ⊢
  cases hr with
  | lda | ldx | ldy => simp [loadA_eq, loadX_eq, loadY_eq]
  | sta | stx | sty => simp [storeByte_eq]
  | adc | sbc => simp [addCarry, subCarry, addToA_eq]
  | cmp | cpx | cpy => simp [compareWith_eq]
  | inc | dec => simp [increment, decrement]
  | inx | iny | dex | dey | tax | tay | tsx | txa | tya => simp [setXFlags, setYFlags, setAFlags]
  | and | ora | eor => simp [andA, orA, eorA, logicResult_eq]
  | asl tg | lsr tg => cases tg <;> simp [shiftLeft, shiftRight, writeBack, Target.operand]
  | bcc | bcs | beq | bne | bmi | bpl | bvc | bvs => simp [branch_eq]
  | jmpAbs | jmpInd => simp [jumpTo_eq]
  | jsr | rts => simp [callSubroutine, returnFromSubroutine, State.pullRest]
  | pha | pla | php => simp [pushA, pullA, pushFlags, State.pullRest]
  | txs | clc | sec | cli | sei | clv | cld | sed | nop => simp
  | brk | plp | rol | ror | rti | bit => simp [consumeOperand]

/-- Settles O28: by `exec_frame` and `exec_run`. -/
theorem registerFrame : Obligations.RegisterFrame := by
  intro i s t h
  obtain ⟨⟨ha, hx, hy, hsp⟩, -⟩ := exec_frame h
  exact ⟨ha, hx, hy, hsp, exec_run h⟩

/-- Settles O27: by `exec_frame`; `B` has no writer at all. -/
theorem flagFrame : Obligations.FlagFrame := by
  intro i s t h
  obtain ⟨-, hflags⟩ := exec_frame h
  exact ⟨(runs_of_exec h).b_eq, hflags⟩

/-! `Z` and `N`. -/

/-- `SetZN` is applied to the byte that the table of R38 names for the instruction, or the flags are kept. -/
theorem exec_zn {i : Instr} {s t : State} (h : exec i s = .next t) :
    (∃ w, zeroNegativeByte i s t = some w ∧ t.z = (w == 0) ∧ t.n = w.getLsbD 7) ∨
      (zeroNegativeByte i s t = none ∧ t.z = s.z ∧ t.n = s.n) := by
  have hr := runs_of_exec h
  clear h
  unfold zeroNegativeByte
  generalize i.mnemonic = m at hr ⊢
  generalize i.operand = o at hr ⊢
  cases hr with
  | lda | ldx | ldy => simp [loadA_eq, loadX_eq, loadY_eq]
  | sta | stx | sty => simp [storeByte_eq]
  | adc | sbc => simp [addCarry, subCarry, addToA_eq]
  | cmp | cpx | cpy => simp [compareWith_eq, operandValue_source]
  | inc | dec => simp [increment, decrement, State.readByte, Memory.read_write_same]
  | inx | iny | dex | dey | tax | tay | tsx | txa | tya => simp [setXFlags, setYFlags, setAFlags]
  | and | ora | eor => simp [andA, orA, eorA, logicResult_eq]
  | asl tg | lsr tg => cases tg <;> 
    simp [shiftLeft, shiftRight, writeBack, Target.operand, State.readByte, Memory.read_write_same]
  | bcc | bcs | beq | bne | bmi | bpl | bvc | bvs => simp [branch_eq]
  | jmpAbs | jmpInd => simp [jumpTo_eq]
  | jsr | rts => simp [callSubroutine, returnFromSubroutine, State.pullRest]
  | pha | pla | php => simp [pushA, pullA, pushFlags, State.pullRest]
  | txs | clc | sec | cli | sei | clv | cld | sed | nop => simp
  | brk | plp | rol | ror | rti | bit => simp [consumeOperand]

/-- Settles O26: by `exec_zn`. -/
theorem zeroNegativeRule : Obligations.ZeroNegativeRule := by
  intro i s t h
  obtain ⟨w, hw, hz, hn⟩ | ⟨hnone, hz, hn⟩ := exec_zn h
  · simp [hw, hz, hn]
  · simp [hnone, hz, hn]

/-! The packed flag byte. -/

theorem getLsbD_flagBit (f : Bool) {j : Nat} (hj : j < 8) (k : Nat) :
    (flagBit f k).getLsbD j = (f && decide (j = k)) := by
  cases f with
  | false => simp [flagBit]
  | true =>
    have hone : (1 : Byte).getLsbD (j - k) = decide (j - k = 0) := by simp [BitVec.getLsbD_one]
    rw [flagBit, if_pos rfl, BitVec.getLsbD_shiftLeft, hone, Bool.eq_iff_iff]
    simp
    omega

theorem State.getLsbD_pack (s : State) {j : Nat} (hj : j < 8) :
    s.pack.getLsbD j = (s.n && decide (j = 7) || s.v && decide (j = 6) || phpBit5 && decide (j = 5) ||
      s.b && decide (j = 4) || s.d && decide (j = 3) || s.i && decide (j = 2) || s.z && decide (j = 1) ||
      s.c && decide (j = 0)) := by
  simp only [State.pack, BitVec.getLsbD_or, getLsbD_flagBit _ hj]

/-- Settles O33: each bit of the disjunction comes from the one flag that stands at its position. -/
theorem packedByteLayout : Obligations.PackedByteLayout := by
  intro s
  have hbit5 : phpBit5 = false := rfl
  and_intros <;> rw [s.getLsbD_pack (by decide)] <;> simp [hbit5]

end Sys2Proof.Machine
end

section
/-! PROOFS. The obligations of 42_arithmetic.md about the 8-bit sum: the two descriptions of overflow and subtraction by
complement (R201, R202). -/

namespace Sys2Proof.Machine

open Sys2Proof

/-! Overflow. -/

theorem bne_zero_and_0x80 (w : Byte) : ((w &&& 0x80) != 0) = w.msb := by
  rw [show (0x80 : Byte) = BitVec.twoPow 8 7 from rfl, BitVec.and_twoPow, BitVec.msb_eq_getLsbD_last]
  cases w.getLsbD 7 <;> simp

/-- Both inputs differ from the result in the sign bit. -/
theorem overflow_iff (a m r : Byte) : overflow a m r = true ↔ a.msb ≠ r.msb ∧ m.msb ≠ r.msb := by
  rw [overflow, bne_zero_and_0x80, BitVec.msb_and, BitVec.msb_xor, BitVec.msb_xor, Bool.and_eq_true, Bool.xor_iff_ne,
    Bool.xor_iff_ne]

theorem toNat_narrow_sumOf (a m : Byte) (c : Bool) :
    (narrow (sumOf a m c)).toNat = (a.toNat + m.toNat + c.toNat) % 256 := by
  rw [narrow, BitVec.toNat_ofNat, sumOf]

/-- A byte as a two's complement number. -/
theorem byte_toInt (w : Byte) : w.toInt = if w.toNat < 128 then (w.toNat : Int) else w.toNat - 256 := by
  rw [BitVec.toInt_eq_toNat_cond]
  split <;> split <;> omega

/-- Settles O30: both sides as conditions on the unsigned values, by the signs of the inputs. -/
theorem overflowIsSignedOverflow : Obligations.OverflowIsSignedOverflow := by
  intro a m c
  have ha := a.isLt
  have hm := m.isLt
  have hc := c.toNat_le
  rw [overflow_iff, BitVec.msb_eq_decide, BitVec.msb_eq_decide, BitVec.msb_eq_decide, toNat_narrow_sumOf,
    byte_toInt, byte_toInt, Ne, Ne, decide_eq_decide, decide_eq_decide]
  split <;> split <;> omega

/-! Subtraction by complement. -/

theorem xor_0xFF (m : Byte) : m ^^^ 0xFF = ~~~m := BitVec.xor_allOnes

theorem toNat_xor_0xFF (m : Byte) : (m ^^^ 0xFF).toNat = 255 - m.toNat := by
  rw [xor_0xFF, BitVec.toNat_not]

theorem toInt_xor_0xFF (m : Byte) : (m ^^^ 0xFF).toInt = -1 - m.toInt := by
  have := m.isLt
  rw [byte_toInt, byte_toInt, toNat_xor_0xFF]
  split <;> split <;> omega

theorem narrow_sumOf_complement (a m : Byte) (c : Bool) :
    narrow (sumOf a (m ^^^ 0xFF) c) = a - m - (if c then 0 else 1) := by
  apply BitVec.eq_of_toNat_eq
  have ha := a.isLt
  have hm := m.isLt
  rw [toNat_narrow_sumOf, toNat_xor_0xFF]
  cases c <;> simp [BitVec.toNat_sub] <;> omega

theorem carryOut_sumOf_complement (a m : Byte) (c : Bool) :
    carryOut (sumOf a (m ^^^ 0xFF) c) = true ↔ m.toNat + (1 - c.toNat) ≤ a.toNat := by
  have ha := a.isLt
  have hm := m.isLt
  have hc := c.toNat_le
  rw [carryOut, decide_eq_true_eq, sumOf, toNat_xor_0xFF]
  omega

/-- Settles O31: the complement of `m` is `255 - m` unsigned and `-1 - m` signed, and overflow is O30's. -/
theorem subtractionByComplement : Obligations.SubtractionByComplement := by
  intro a m c
  refine ⟨narrow_sumOf_complement a m c, carryOut_sumOf_complement a m c, ?_⟩
  rw [overflowIsSignedOverflow a (m ^^^ 0xFF) c, toInt_xor_0xFF]
  omega

end Sys2Proof.Machine
end

section
/-! PROOFS. The obligations of 41_load_store.md, 42_arithmetic.md, 43_logic_shift.md and 46_inert.md that say of every
form of a mnemonic what state it answers. -/

namespace Sys2Proof.Machine

open Sys2Proof

/-! The forms of one mnemonic are one operation on an operand of one kind. -/

/-- The mnemonic `m` runs the operation `f` on an operand that `opd` writes, and nothing else. -/
def RunsOnly {α : Type} (m : Mnemonic) (opd : α → Operand) (f : α → State → State) : Prop :=
  ∀ (s : State) (o : Operand) (t : State), Runs s m o t → ∃ x, o = opd x ∧ t = f x s

theorem RunsOnly.exec_eq {α : Type} {m : Mnemonic} {opd : α → Operand} {f : α → State → State}
    (h : RunsOnly m opd f) {i : Instr} (hi : i.mnemonic = m) (s : State) :
    ∃ x, i.operand = opd x ∧ exec i s = .next (f x s) := by
  obtain ⟨t, hexec, hr⟩ := exec_runs i s
  rw [hi] at hr
  obtain ⟨x, hx, rfl⟩ := h s _ t hr
  exact ⟨x, hx, hexec⟩

/-- The resolver on an operand with an address (R144, R160). -/
theorem State.resolve_of_effAddr {s : State} {o : Operand} {ea : Addr} (h : effAddr o s = some ea) :
    s.resolve o = { s with pc := s.pc + BitVec.ofNat 16 o.length, last := some ea } := by
  rw [State.resolve_eq, h]

theorem effAddr_source (src : Source) (s : State) : ∃ ea, effAddr src.operand s = some ea := by
  cases src <;> exact ⟨_, rfl⟩

/-- A reading instruction has an address and a value, and resolves its operand before its operation. -/
theorem RunsOnly.source {m : Mnemonic} {f : Source → State → State} (h : RunsOnly m Source.operand f) {i : Instr}
    (hi : i.mnemonic = m) (s : State) :
    ∃ ea src, effAddr i.operand s = some ea ∧ operandValue i.operand s = some (sourceValue src s) ∧
      s.resolve src.operand = { s with pc := s.pc + BitVec.ofNat 16 i.length, last := some ea } ∧
      exec i s = .next (f src s) := by
  obtain ⟨src, hsrc, hexec⟩ := h.exec_eq hi s
  obtain ⟨ea, hea⟩ := effAddr_source src s
  rw [Instr.length, hsrc]
  exact ⟨ea, src, hea, operandValue_source src s, State.resolve_of_effAddr hea, hexec⟩

/-- The same of an instruction that writes its memory byte. -/
theorem RunsOnly.mem {m : Mnemonic} {f : MemOperand → State → State} (h : RunsOnly m Operand.mem f) {i : Instr}
    (hi : i.mnemonic = m) (s : State) :
    ∃ mo, effAddr i.operand s = some (memAddr mo s) ∧
      s.resolve (.mem mo) = { s with pc := s.pc + BitVec.ofNat 16 i.length, last := some (memAddr mo s) } ∧
      exec i s = .next (f mo s) := by
  obtain ⟨mo, hmo, hexec⟩ := h.exec_eq hi s
  rw [Instr.length, hmo]
  exact ⟨mo, rfl, State.resolve_of_effAddr rfl, hexec⟩

/-! Loads and stores. -/

theorem runsOnly_lda : RunsOnly .lda Source.operand loadA := by rintro _ _ _ ⟨⟩; exact ⟨_, rfl, rfl⟩
theorem runsOnly_ldx : RunsOnly .ldx Source.operand loadX := by rintro _ _ _ ⟨⟩; exact ⟨_, rfl, rfl⟩
theorem runsOnly_ldy : RunsOnly .ldy Source.operand loadY := by rintro _ _ _ ⟨⟩; exact ⟨_, rfl, rfl⟩

/-- Settles O37: a load is one update of the resolved state (`loadA_eq`, `loadX_eq`, `loadY_eq`). -/
theorem loadsComplete : Obligations.LoadsComplete := by
  refine ⟨fun i s hi => ?lda, fun i s hi => ?ldx, fun i s hi => ?ldy⟩
  case lda =>
    obtain ⟨ea, src, hea, hvalue, hresolve, hexec⟩ := runsOnly_lda.source hi s
    exact ⟨ea, _, hea, hvalue, by rw [hexec, loadA_eq, hresolve]⟩
  case ldx =>
    obtain ⟨ea, src, hea, hvalue, hresolve, hexec⟩ := runsOnly_ldx.source hi s
    exact ⟨ea, _, hea, hvalue, by rw [hexec, loadX_eq, hresolve]⟩
  case ldy =>
    obtain ⟨ea, src, hea, hvalue, hresolve, hexec⟩ := runsOnly_ldy.source hi s
    exact ⟨ea, _, hea, hvalue, by rw [hexec, loadY_eq, hresolve]⟩

/-- A store of the byte `reg` selects, in every form of its mnemonic. -/
theorem RunsOnly.store_completes {m : Mnemonic} {reg : State → Byte}
    (h : RunsOnly m Operand.mem fun mo s => storeByte mo (reg s) s) {i : Instr} (hi : i.mnemonic = m) (s : State) :
    ∃ ea, effAddr i.operand s = some ea ∧ exec i s = .next { s with
      pc := s.pc + BitVec.ofNat 16 i.length, last := some ea, mem := s.mem.write ea.toNat (reg s) } := by
  obtain ⟨mo, hea, hresolve, hexec⟩ := h.mem hi s
  exact ⟨_, hea, by rw [hexec, storeByte_eq, hresolve]⟩

theorem runsOnly_sta : RunsOnly .sta Operand.mem fun mo s => storeByte mo s.a s := by
  rintro _ _ _ ⟨⟩; exact ⟨_, rfl, rfl⟩
theorem runsOnly_stx : RunsOnly .stx Operand.mem fun mo s => storeByte mo s.x s := by
  rintro _ _ _ ⟨⟩; exact ⟨_, rfl, rfl⟩
theorem runsOnly_sty : RunsOnly .sty Operand.mem fun mo s => storeByte mo s.y s := by
  rintro _ _ _ ⟨⟩; exact ⟨_, rfl, rfl⟩

/-- Settles O38: the three stores differ in the register alone. -/
theorem storesComplete : Obligations.StoresComplete :=
  ⟨fun _ s hi => runsOnly_sta.store_completes hi s, fun _ s hi => runsOnly_stx.store_completes hi s,
    fun _ s hi => runsOnly_sty.store_completes hi s⟩

/-! Arithmetic. -/

/-- The sum and the carry as the pseudocode of R201 writes them. -/
theorem sumOf_eq (a m : Byte) (c : Bool) : sumOf a m c = a.toNat + m.toNat + if c then 1 else 0 := by
  cases c <;> rfl

theorem runsOnly_adc : RunsOnly .adc Source.operand addCarry := by rintro _ _ _ ⟨⟩; exact ⟨_, rfl, rfl⟩
theorem runsOnly_sbc : RunsOnly .sbc Source.operand subCarry := by rintro _ _ _ ⟨⟩; exact ⟨_, rfl, rfl⟩

/-- Settles O39: the addition to `A` in the resolved state, whose `A` and `C` are those before. -/
theorem adcCompletes : Obligations.AdcCompletes := by
  intro i s hi
  obtain ⟨ea, src, hea, hvalue, hresolve, hexec⟩ := runsOnly_adc.source hi s
  refine ⟨ea, _, hea, hvalue, _, narrow (sumOf s.a (sourceValue src s) s.c), rfl, ?_, ?_⟩
  · rw [narrow, BitVec.toNat_ofNat, sumOf_eq]
  · rw [hexec, addCarry, hresolve, addToA_eq, ← sumOf_eq]
    rfl

/-- Settles O40: the same addition, of the operand's complement. -/
theorem sbcCompletes : Obligations.SbcCompletes := by
  intro i s hi
  obtain ⟨ea, src, hea, hvalue, hresolve, hexec⟩ := runsOnly_sbc.source hi s
  refine ⟨ea, _, hea, hvalue, _, narrow (sumOf s.a (sourceValue src s ^^^ 0xFF) s.c), rfl, ?_, ?_⟩
  · rw [narrow, BitVec.toNat_ofNat, sumOf_eq]
  · rw [hexec, subCarry, hresolve, addToA_eq, ← sumOf_eq]
    rfl

theorem Source.operand_injective : Function.Injective Source.operand := by
  intro src src' h
  cases src <;> cases src' <;> cases h <;> rfl

theorem addCarry_setD (src : Source) (s : State) (f : Bool) : addCarry src (s.setD f) = (addCarry src s).setD f := by
  cases src <;> rfl

theorem subCarry_setD (src : Source) (s : State) (f : Bool) : subCarry src (s.setD f) = (subCarry src s).setD f := by
  cases src <;> rfl

/-- An operation on a source that does not see `D` has `D` as no input in any form of its mnemonic. -/
theorem RunsOnly.exec_setD {m : Mnemonic} {f : Source → State → State} (h : RunsOnly m Source.operand f)
    (hf : ∀ src s d, f src (s.setD d) = (f src s).setD d) {i : Instr} (hi : i.mnemonic = m) (s : State) (d : Bool) :
    ∃ t, exec i s = .next t ∧ t.d = s.d ∧ exec i (s.setD d) = .next (t.setD d) := by
  obtain ⟨src, hsrc, hexec⟩ := h.exec_eq hi s
  obtain ⟨src', hsrc', hexec'⟩ := h.exec_eq hi (s.setD d)
  obtain rfl : src = src' := Source.operand_injective (hsrc.symm.trans hsrc')
  have hkept : (f src s).d = ((f src s).setD s.d).d := congrArg State.d (hf src s s.d)
  exact ⟨f src s, hexec, hkept, by rw [hexec', hf]⟩

/-- Settles O32: the addition does not see `D` (42_arithmetic.md R203). -/
theorem decimalFlagHasNoEffect : Obligations.DecimalFlagHasNoEffect := by
  intro i s d hi
  obtain hadc | hsbc := hi
  · exact runsOnly_adc.exec_setD addCarry_setD hadc s d
  · exact runsOnly_sbc.exec_setD subCarry_setD hsbc s d

/-! Compares. -/

/-- A compare with the register `reg` selects, in every form of its mnemonic. -/
theorem RunsOnly.compare_completes {m : Mnemonic} {reg : State → Byte}
    (h : RunsOnly m Source.operand fun src s => compareWith (reg s) src s) {i : Instr} (hi : i.mnemonic = m)
    (s : State) :
    ∃ ea w, effAddr i.operand s = some ea ∧ operandValue i.operand s = some w ∧ exec i s = .next { s with
      c := decide ((reg s).toNat ≥ w.toNat), z := reg s - w == 0x00, n := (reg s - w).getLsbD 7,
      pc := s.pc + BitVec.ofNat 16 i.length, last := some ea } := by
  obtain ⟨ea, src, hea, hvalue, hresolve, hexec⟩ := h.source hi s
  exact ⟨ea, _, hea, hvalue, by rw [hexec, compareWith_eq, hresolve]⟩

theorem runsOnly_cmp : RunsOnly .cmp Source.operand fun src s => compareWith s.a src s := by
  rintro _ _ _ ⟨⟩; exact ⟨_, rfl, rfl⟩
theorem runsOnly_cpx : RunsOnly .cpx Source.operand fun src s => compareWith s.x src s := by
  rintro _ _ _ ⟨⟩; exact ⟨_, rfl, rfl⟩
theorem runsOnly_cpy : RunsOnly .cpy Source.operand fun src s => compareWith s.y src s := by
  rintro _ _ _ ⟨⟩; exact ⟨_, rfl, rfl⟩

/-- Settles O41: the three compares differ in the register alone. -/
theorem comparesComplete : Obligations.ComparesComplete :=
  ⟨fun _ s hi => runsOnly_cmp.compare_completes hi s, fun _ s hi => runsOnly_cpx.compare_completes hi s,
    fun _ s hi => runsOnly_cpy.compare_completes hi s⟩

/-! Increments and decrements. -/

/-- A byte written in the resolved state with `Z` and `N` of it, as one update. -/
theorem setZN_writeByte_resolve_eq (o : Operand) (s : State) (a : Addr) (r : Byte) :
    ((s.resolve o).writeByte a r).setZN r =
      { s.resolve o with mem := s.mem.write a.toNat r, z := r == 0, n := r.getLsbD 7 } := by
  simp [State.setZN, State.setZ, State.setN, State.writeByte, State.setMem]

theorem runsOnly_inc : RunsOnly .inc Operand.mem increment := by rintro _ _ _ ⟨⟩; exact ⟨_, rfl, rfl⟩
theorem runsOnly_dec : RunsOnly .dec Operand.mem decrement := by rintro _ _ _ ⟨⟩; exact ⟨_, rfl, rfl⟩

/-- Settles O42: the byte is read, changed and written back at the one address. -/
theorem memoryIncrementsComplete : Obligations.MemoryIncrementsComplete := by
  refine ⟨fun i s hi => ?inc, fun i s hi => ?dec⟩
  case inc =>
    obtain ⟨mo, hea, hresolve, hexec⟩ := runsOnly_inc.mem hi s
    exact ⟨_, _, hea, rfl, by rw [hexec, increment, setZN_writeByte_resolve_eq, hresolve]⟩
  case dec =>
    obtain ⟨mo, hea, hresolve, hexec⟩ := runsOnly_dec.mem hi s
    exact ⟨_, _, hea, rfl, by rw [hexec, decrement, setZN_writeByte_resolve_eq, hresolve]⟩

/-- Settles O43: each is one update of the resolved state, with `PC` one on and `LAST` kept. -/
theorem registerIncrementsComplete : Obligations.RegisterIncrementsComplete :=
  ⟨fun _ => rfl, fun _ => rfl, fun _ => rfl, fun _ => rfl⟩

/-! Logical instructions and shifts. -/

/-- A logical instruction with the bit operation `op`, in every form of its mnemonic. -/
theorem RunsOnly.logical_completes {m : Mnemonic} {op : Byte → Byte → Byte}
    (h : RunsOnly m Source.operand fun src s => logicResult src (op s.a (sourceValue src s)) s) {i : Instr}
    (hi : i.mnemonic = m) (s : State) :
    ∃ ea w r, effAddr i.operand s = some ea ∧ operandValue i.operand s = some w ∧ r = op s.a w ∧
      exec i s = .next { s with
        a := r, z := r == 0x00, n := r.getLsbD 7, pc := s.pc + BitVec.ofNat 16 i.length, last := some ea } := by
  obtain ⟨ea, src, hea, hvalue, hresolve, hexec⟩ := h.source hi s
  exact ⟨ea, _, _, hea, hvalue, rfl, by rw [hexec, logicResult_eq, hresolve]⟩

theorem runsOnly_and : RunsOnly .and Source.operand fun src s => logicResult src (s.a &&& sourceValue src s) s := by
  rintro _ _ _ ⟨⟩; exact ⟨_, rfl, rfl⟩
theorem runsOnly_ora : RunsOnly .ora Source.operand fun src s => logicResult src (s.a ||| sourceValue src s) s := by
  rintro _ _ _ ⟨⟩; exact ⟨_, rfl, rfl⟩
theorem runsOnly_eor : RunsOnly .eor Source.operand fun src s => logicResult src (s.a ^^^ sourceValue src s) s := by
  rintro _ _ _ ⟨⟩; exact ⟨_, rfl, rfl⟩

/-- Settles O44: the three differ in the bit operation alone. -/
theorem logicalsComplete : Obligations.LogicalsComplete :=
  ⟨fun _ s hi => runsOnly_and.logical_completes hi s, fun _ s hi => runsOnly_ora.logical_completes hi s,
    fun _ s hi => runsOnly_eor.logical_completes hi s⟩

/-- What ASL and LSR have in common: the shift `sh`, with `out` the bit shifted out (R233, R234). -/
def shiftWith (sh : Byte → Byte) (out : Byte → Bool) (tg : Target) (s : State) : State :=
  (writeBack tg s (sh (targetValue tg s)) ((s.resolve tg.operand).setC (out (targetValue tg s)))).setZN
    (sh (targetValue tg s))

/-- A shift, in every form of its mnemonic: of `A`, or of a memory byte. -/
theorem RunsOnly.shift_completes {m : Mnemonic} {sh : Byte → Byte} {out : Byte → Bool}
    (h : RunsOnly m Target.operand (shiftWith sh out)) {i : Instr} (hi : i.mnemonic = m) (s : State) :
    (i.operand = .acc ∧ exec i s = .next { s with
      a := sh s.a, c := out s.a, z := sh s.a == 0x00, n := (sh s.a).getLsbD 7, pc := s.pc + 1 }) ∨
    (∃ ea w, effAddr i.operand s = some ea ∧ w = s.readByte ea ∧ exec i s = .next { s with
      c := out w, z := sh w == 0x00, n := (sh w).getLsbD 7, pc := s.pc + BitVec.ofNat 16 i.length, last := some ea,
      mem := s.mem.write ea.toNat (sh w) }) := by
  obtain ⟨tg, htg, hexec⟩ := h.exec_eq hi s
  rw [Instr.length, htg]
  cases tg with
  | acc => exact .inl ⟨rfl, hexec⟩
  | mem mo => exact .inr ⟨_, _, rfl, rfl, hexec⟩

theorem runsOnly_asl : RunsOnly .asl Target.operand (shiftWith (· <<< 1) (·.getLsbD 7)) := by
  rintro _ _ _ ⟨⟩; exact ⟨_, rfl, rfl⟩
theorem runsOnly_lsr : RunsOnly .lsr Target.operand (shiftWith (· >>> 1) (·.getLsbD 0)) := by
  rintro _ _ _ ⟨⟩; exact ⟨_, rfl, rfl⟩

/-- Settles O45: the two differ in the shift and in which bit leaves. -/
theorem shiftsComplete : Obligations.ShiftsComplete :=
  ⟨fun _ s hi => runsOnly_asl.shift_completes hi s, fun _ s hi => runsOnly_lsr.shift_completes hi s⟩

/-! The inert instructions. -/

theorem Runs.eq_resolve_of_inert {s t : State} {m : Mnemonic} {o : Operand} (h : Runs s m o t)
    (hm : m ∈ [Mnemonic.brk, .plp, .rol, .ror, .rti, .bit]) : t = s.resolve o := by
  cases h with
  | brk | plp | rol | ror | rti | bit => rfl
  | _ => simp at hm

/-- Settles O54: an inert instruction leaves what the resolver left (46_inert.md R320). -/
theorem inertInstructionsComplete : Obligations.InertInstructionsComplete := by
  intro i s hm
  obtain ⟨t, hexec, hr⟩ := exec_runs i s
  refine ⟨?_, if_pos ((isInert_iff _).mpr hm)⟩
  rw [hexec, hr.eq_resolve_of_inert hm, State.resolve_eq]
  rfl

end Sys2Proof.Machine
end

section
/-! PROOFS. The obligations of 44_control.md and 45_stack_transfer_flag.md: branches, jumps, subroutines, the stack, the
transfers and the flag instructions. -/

namespace Sys2Proof.Machine

open Sys2Proof

/-! Branches. -/

/-- The signed offset as the 16-bit pattern that is added (R250). -/
theorem toNat_sext16 (off : Byte) :
    (sext16 off).toNat = if off.toNat < 128 then off.toNat else off.toNat + 65280 := by
  have := off.isLt
  rw [sext16, BitVec.toNat_signExtend, BitVec.toNat_setWidth, BitVec.msb_eq_decide]
  simp only [decide_eq_true_eq]
  split <;> split <;> omega

/-- The target of a taken branch as a number: the offset byte counts less 256 from 0x80 on. -/
theorem toNat_branch_target (pc : Addr) (off : Byte) :
    ((pc + 2 + sext16 off).toNat : Int) =
      ((pc.toNat : Int) + 2 + (if off.toNat < 128 then (off.toNat : Int) else (off.toNat : Int) - 256)) % 65536 := by
  have := off.isLt
  rw [BitVec.toNat_add, BitVec.toNat_add, toNat_sext16, show (2 : Addr).toNat = 2 from rfl]
  split <;> omega

theorem branch_on_set_eq (f : Bool) (off : Byte) (s : State) :
    branch f off s = { s with pc := if f = true then s.pc + 2 + sext16 off else s.pc + 2, last := none } :=
  branch_eq s f off

theorem branch_on_clear_eq (f : Bool) (off : Byte) (s : State) :
    branch (!f) off s = { s with pc := if f = false then s.pc + 2 + sext16 off else s.pc + 2, last := none } := by
  cases f <;> rfl

/-- Settles O46: each branch is `branch` on its flag or on the flag's negation. -/
theorem branchesComplete : Obligations.BranchesComplete := fun off s =>
  ⟨s.pc + 2, s.pc + 2 + sext16 off, BitVec.toNat_add _ _, toNat_branch_target s.pc off,
    congrArg Host.Outcome.next (branch_on_clear_eq s.c off s), congrArg Host.Outcome.next (branch_on_set_eq s.c off s),
    congrArg Host.Outcome.next (branch_on_set_eq s.z off s), congrArg Host.Outcome.next (branch_on_clear_eq s.z off s),
    congrArg Host.Outcome.next (branch_on_set_eq s.n off s), congrArg Host.Outcome.next (branch_on_clear_eq s.n off s),
    congrArg Host.Outcome.next (branch_on_clear_eq s.v off s), congrArg Host.Outcome.next (branch_on_set_eq s.v off s)⟩

/-! Jumps and subroutines. -/

/-- Settles O47: both forms are `jumpTo`, with their own target. -/
theorem jmpCompletes : Obligations.JmpCompletes := fun w s =>
  ⟨congrArg Host.Outcome.next (jumpTo_eq s (.mem (.abs w)) w),
    congrArg Host.Outcome.next (jumpTo_eq s (.ind w) (s.readWord w))⟩

/-- JSR as one update: both bytes of the next instruction's address pushed, `PC` the target (R260). -/
theorem callSubroutine_eq (w : Addr) (s : State) :
    callSubroutine w s = { s with
      sp := s.sp - 1 - 1, pc := w, last := none,
      mem := (s.mem.write (stackAddr s.sp).toNat (hiByte (s.pc + 3))).write (stackAddr (s.sp - 1)).toNat
        (loByte (s.pc + 3)) } := by
  have hlength : (Operand.mem (.abs w)).length = 3 := rfl
  apply State.ext <;> simp [callSubroutine, hlength]

/-- RTS as one update: `PC` from the two bytes above `SP` (R261). -/
theorem returnFromSubroutine_eq (s : State) :
    returnFromSubroutine s = { s with
      sp := s.sp + 1 + 1, pc := wordOf (s.readByte (stackAddr (s.sp + 1))) (s.readByte (stackAddr (s.sp + 1 + 1))),
      last := none } := by
  apply State.ext <;> simp [returnFromSubroutine, State.pullRest, State.pullByte, State.readByte]

/-- Settles O48: by `callSubroutine_eq`. -/
theorem jsrCompletes : Obligations.JsrCompletes := fun w s => congrArg Host.Outcome.next (callSubroutine_eq w s)

/-- Settles O49: by `returnFromSubroutine_eq`. -/
theorem rtsCompletes : Obligations.RtsCompletes := fun s => congrArg Host.Outcome.next (returnFromSubroutine_eq s)

theorem storeAddrs_jsr (w : Addr) (s : State) : storeAddrs (.jsr w) s = [stackAddr s.sp, stackAddr (s.sp - 1)] := rfl

/-- Settles O35: JSR leaves the two bytes of `PC + 3` at different addresses of the stack page (`storedBytes`), and
RTS pulls them from there. -/
theorem jsrRtsRoundTrip : Obligations.JsrRtsRoundTrip := by
  intro s t u w hjsr hrts
  have hhi : t.readByte (stackAddr s.sp) = hiByte (s.pc + 3) :=
    readByte_of_mem_storedBytes hjsr List.mem_cons_self
  have hlo : t.readByte (stackAddr (s.sp - 1)) = loByte (s.pc + 3) :=
    readByte_of_mem_storedBytes hjsr (List.mem_cons_of_mem _ List.mem_cons_self)
  have hother : ∀ k, k ≠ stackAddr s.sp → k ≠ stackAddr (s.sp - 1) → t.readByte k = s.readByte k := fun k h1 h2 =>
    memoryFrame _ s t k hjsr (by simpa [storeAddrs_jsr] using ⟨h1, h2⟩)
  have hsp1 : s.sp - 1 - 1 + 1 = s.sp - 1 := by bv_omega
  have hsp2 : s.sp - 1 + 1 = s.sp := by bv_omega
  have ht := Host.Outcome.next.inj (hjsr.symm.trans (jsrCompletes w s))
  have hu := Host.Outcome.next.inj (hrts.symm.trans (rtsCompletes t))
  have hmem : u.mem = t.mem := by rw [hu]
  have hsp : t.sp = s.sp - 1 - 1 := by rw [ht]
  rw [hsp, hsp1, hsp2, hlo, hhi, wordOf_lo_hi] at hu
  refine ⟨?_, by rw [ht], ?_, ?_, fun k h1 h2 => ?_⟩
  · rw [hu, ht]
  · rw [State.readByte_congr hmem, hhi]
  · rw [State.readByte_congr hmem, hlo]
  · rw [State.readByte_congr hmem, hother k h1 h2]

/-! The stack. -/

theorem State.pullRest_push (s : State) (w : Byte) : (s.push w).pullRest = { s with mem := (s.push w).mem } := by
  have hsp : s.sp - 1 + 1 = s.sp := by bv_omega
  rw [State.pullRest, State.push_sp, hsp]
  rfl

theorem State.readByte_push_same (s : State) (w : Byte) : (s.push w).readByte (stackAddr s.sp) = w :=
  Memory.read_write_same s.mem _ w

/-- Settles O34: a push is a byte write at the selected address and a pull reads the byte above, by the laws of the
byte write. -/
theorem pushThenPull : Obligations.PushThenPull := by
  intro s w
  have hsp : s.sp - 1 + 1 = s.sp := by bv_omega
  refine ⟨s.readByte_push_same w, fun k hk => State.readByte_writeByte_other s w hk, rfl, rfl, rfl, ?_,
    s.pullRest_push w⟩
  rw [State.pullByte, State.push_sp, hsp, s.readByte_push_same w]

/-- Settles O50: a push in the resolved state, of `A` or of the packed flags. -/
theorem pushInstructionsComplete : Obligations.PushInstructionsComplete := fun _ => ⟨rfl, rfl⟩

/-- Settles O51: a pull in the resolved state. -/
theorem plaCompletes : Obligations.PlaCompletes := fun _ => ⟨_, rfl, rfl⟩

/-- Settles O36: the byte at the stack address is the packed one, whose bits are the flags (`packedByteLayout`), and the
invariant says which of them are clear. -/
theorem pushedFlagByteShape : Obligations.PushedFlagByteShape := by
  intro s t hinv h
  obtain ⟨-, hb, hnz⟩ := hinv
  have hbyte : t.readByte (stackAddr s.sp) = s.pack := readByte_of_mem_storedBytes h List.mem_cons_self
  obtain ⟨hn7, -, h5, hb4, -, -, hz1, -⟩ := packedByteLayout s
  rw [hbyte, h5, hb4, hn7, hz1]
  exact ⟨rfl, hb, hnz⟩

/-! Transfers and flag instructions. -/

/-- Settles O52: each is one update of the resolved state. -/
theorem transfersComplete : Obligations.TransfersComplete := fun _ => ⟨rfl, rfl, rfl, rfl, rfl, rfl⟩

/-- Settles O53: each is one update of the resolved state, and none of the mnemonics is inert. -/
theorem flagInstructionsComplete : Obligations.FlagInstructionsComplete := fun _ => by
  and_intros <;> rfl

end Sys2Proof.Machine
end

section
/-! PROOFS. The obligations of 60_exceptions.md sections 8 and 10 and 70_reset_and_hazards.md: the button, the
observations, and the invariant at reset, at launch and over the host's calls. -/

namespace Sys2Proof.Machine

open Sys2Proof

/-! The invariant. -/

/-- Settles O17: the reset state has no memory listed and all flags clear. -/
theorem resetStateMeetsTheInvariant : Obligations.ResetStateMeetsTheInvariant :=
  ⟨State.reset_wf, rfl, rfl⟩

theorem State.hostReset_inv {s : State} (hs : s.Inv) : s.hostReset.Inv := by
  obtain ⟨hmem, -⟩ := hs
  exact ⟨State.hostReset_wf hmem, rfl, rfl⟩

theorem State.launch_inv (image : List Byte) : (State.launch image).Inv :=
  ⟨State.launch_wf image, rfl, rfl⟩

/-- The button writes memory and nothing else (R365). -/
theorem State.setButtonPin_eq (g : Config.GpioBinding) (pressed : Bool) (s : State) :
    s.setButtonPin g pressed = { s with mem := (s.setButtonPin g pressed).mem } := by
  unfold State.setButtonPin
  split <;> rfl

theorem State.setButtonPin_inv {s : State} (g : Config.GpioBinding) (pressed : Bool) (hs : s.Inv) :
    (s.setButtonPin g pressed).Inv := by
  obtain ⟨hmem, hflags⟩ := hs
  rw [State.setButtonPin_eq]
  exact ⟨State.setButtonPin_wf g pressed hmem, hflags⟩

/-- Settles O16: each call of the host other than the step, and the launch. -/
theorem hostCallsKeepTheInvariant : Obligations.HostCallsKeepTheInvariant := by
  refine ⟨fun g s t call hcall hs h => ?_, State.launch_inv⟩
  cases call with
  | step => exact absurd rfl hcall
  | reset =>
    obtain rfl : s.hostReset = t := Host.Outcome.next.inj h
    exact State.hostReset_inv hs
  | setButtonPin pressed =>
    obtain rfl : s.setButtonPin g pressed = t := Host.Outcome.next.inj h
    exact State.setButtonPin_inv g pressed hs

/-- Settles O18: the empty image stores nothing, and the step of the reset state runs the inert BRK that the zero byte
at 0x0000 is. -/
theorem resetStateIsTheLaunchState : Obligations.ResetStateIsTheLaunchState :=
  ⟨rfl, rfl, fun _ => rfl, rfl, rfl, rfl⟩

/-! The button. -/

theorem getLsbD_buttonMask (g : Config.GpioBinding) (k : Nat) :
    (buttonMask g).getLsbD k = decide (k = g.buttonBit.val) := by
  have hmask : buttonMask g = BitVec.twoPow 8 g.buttonBit.val := rfl
  have hbit := g.buttonBit.isLt
  rw [hmask, BitVec.getLsbD_twoPow]
  simp [hbit, eq_comm]

/-- What the button makes of the port byte: the masked bit set or cleared (R365). -/
def buttonByte (g : Config.GpioBinding) (pressed : Bool) (old : Byte) : Byte :=
  if pressed then old ||| buttonMask g else old &&& ~~~ buttonMask g

theorem getLsbD_buttonByte (g : Config.GpioBinding) (pressed : Bool) (old : Byte) {k : Nat} (hk : k < 8) :
    (buttonByte g pressed old).getLsbD k = if k = g.buttonBit.val then pressed else old.getLsbD k := by
  cases pressed with
  | false =>
    rw [buttonByte, if_neg Bool.false_ne_true, BitVec.getLsbD_and, BitVec.getLsbD_not, getLsbD_buttonMask]
    split <;> simp [*]
  | true =>
    rw [buttonByte, if_pos rfl, BitVec.getLsbD_or, getLsbD_buttonMask]
    split <;> simp [*]

/-- The button where the direction bit marks an input. -/
theorem State.setButtonPin_of_input {s : State} {g : Config.GpioBinding}
    (h : (s.readByte g.buttonDdr).getLsbD g.buttonBit.val = false) (pressed : Bool) :
    s.setButtonPin g pressed = s.writeByte g.buttonPort (buttonByte g pressed (s.readByte g.buttonPort)) := by
  rw [State.setButtonPin, h]
  rfl

theorem State.setButtonPin_of_output {s : State} {g : Config.GpioBinding}
    (h : (s.readByte g.buttonDdr).getLsbD g.buttonBit.val = true) (pressed : Bool) :
    s.setButtonPin g pressed = s := by
  rw [State.setButtonPin, h]
  rfl

theorem State.setButtonPin_setRun (s : State) (g : Config.GpioBinding) (pressed r : Bool) :
    (s.setRun r).setButtonPin g pressed = (s.setButtonPin g pressed).setRun r := by
  cases h : (s.readByte g.buttonDdr).getLsbD g.buttonBit.val with
  | true =>
    have h' : ((s.setRun r).readByte g.buttonDdr).getLsbD g.buttonBit.val = true := h
    rw [State.setButtonPin_of_output h', State.setButtonPin_of_output h]
  | false =>
    have h' : ((s.setRun r).readByte g.buttonDdr).getLsbD g.buttonBit.val = false := h
    rw [State.setButtonPin_of_input h', State.setButtonPin_of_input h]
    rfl

/-- Settles O55: an output bit stops the call; an input bit makes it a write of the port byte with one bit replaced. -/
theorem buttonSetsOneInputBit : Obligations.ButtonSetsOneInputBit := by
  intro g pressed s
  refine ⟨fun hout => State.setButtonPin_of_output hout pressed, fun hin => ?_,
    fun r => s.setButtonPin_setRun g pressed r⟩
  have hport : (s.setButtonPin g pressed).readByte g.buttonPort = buttonByte g pressed (s.readByte g.buttonPort) := by
    rw [State.setButtonPin_of_input hin]
    exact State.readByte_writeByte_same s _ _
  refine ⟨?bit, fun k hk hne => ?otherBits, fun a ha => ?otherBytes, s.setButtonPin_eq g pressed⟩
  case bit => rw [hport, getLsbD_buttonByte g pressed _ g.buttonBit.isLt, if_pos rfl]
  case otherBits => rw [hport, getLsbD_buttonByte g pressed _ hk, if_neg hne]
  case otherBytes =>
    rw [State.setButtonPin_of_input hin]
    exact State.readByte_writeByte_other s _ ha

/-! The observations. -/

theorem State.readMemoryRange_of_fits (s : State) {start : Addr} {len : Nat} (h : start.toNat + len ≤ 65536) :
    s.readMemoryRange start len = some ((List.range len).map fun k => s.readByte (start + BitVec.ofNat 16 k)) :=
  if_pos h

theorem toNat_add_ofNat {a : Addr} {k : Nat} (h : a.toNat + k < 65536) :
    (a + BitVec.ofNat 16 k).toNat = a.toNat + k := by
  rw [BitVec.toNat_add, BitVec.toNat_ofNat]
  omega

/-- Settles O56: a range that fits is read byte by byte without wrapping; the others are fields of the state. -/
theorem observationsReadTheState : Obligations.ObservationsReadTheState := by
  intro s
  refine ⟨rfl, rfl, rfl, fun start len hfits => ?fits, fun start len hpast => if_neg (by omega)⟩
  case fits =>
    refine ⟨_, s.readMemoryRange_of_fits hfits, by simp, fun k hk => ?_⟩
    rw [List.getElem?_map, List.getElem?_range hk, Option.map_some, State.readByte, toNat_add_ofNat (by omega)]

end Sys2Proof.Machine
end
